-- ==== Sys2Proof/Word.lean ====
section
/-!
DEFINITION. The word types of HOVERNAV (00_scope.md R6, R9). Every host-visible register has 32 bits (R62).
-/

namespace Sys2Proof

/-- `u8`: a byte of the gyroscope bus, an opcode, TCNT, TRIG_CNT. -/
abbrev Byte := BitVec 8

/-- `u16`: a pulse width, OVF, SEQ_I. -/
abbrev Half := BitVec 16

/-- `u32`: WORD of R6, a host-visible register or half of a command word. A register holding an `f32` holds
its 32-bit pattern (R10). -/
abbrev Word := BitVec 32

/-- A 64-bit command word (30_encoding.md R80). -/
abbrev CommandWord := BitVec 64

end Sys2Proof
end

