-- ==== Sys2Proof/Config.lean ====
section
/-!
DEFINITION. What the spec leaves open: the configuration `cfg` (00_scope.md R7), the inputs of a cycle
(10_state.md R46) and the free draws. The free draws have no body, so no proof can see their values.
-/

namespace Sys2Proof

/-- One of the seven (angle, pulse) pairs of the SweepPlan (00_scope.md R7). -/
structure SweepPoint where
  angle : Int
  pulse : Half
deriving DecidableEq, Repr

/-- ANGLE_RIGHT: +90 or -90 (00_scope.md R7, 92_eei_decisions.md D27). -/
inductive RightAngle where
  | plus90
  | minus90
deriving DecidableEq, Repr

/-- GYRO_RANGE_VAL(r): the register value written for each of the four ranges (00_scope.md R7). -/
structure RangeValues where
  v250  : Byte
  v500  : Byte
  v1000 : Byte
  v2000 : Byte
deriving DecidableEq, Repr

/-- One register write of GYRO_PRE_INIT (00_scope.md R7). -/
structure RegWrite where
  reg   : Byte
  value : Byte
deriving DecidableEq, Repr

/-- The configuration `cfg`: the parameters the source leaves open (00_scope.md R7) and HOST_BASE (20_memory.md
R71, 92_eei_decisions.md D14; log entry 14), which no rule reads. Fixed for the machine: State carries it, no step changes it. -/
structure Config where
  pulseMin       : Half
  pulseMid       : Half
  pulseMax       : Half
  /-- The pulse for integer angle `a` is entry `a + 90`. -/
  servoTable     : Vector Half 181
  sweep          : Vector SweepPoint 7
  pulseRight     : Half
  pulseLeft      : Half
  pulseCenter    : Half
  angleRight     : RightAngle
  calN           : Nat
  calDelayMs     : Half
  gyroDev        : Byte
  gyroPreInit    : List RegWrite
  gyroRangeReg   : Byte
  gyroRangeVal   : RangeValues
  gyroDataReg    : Byte
  gyroBigEndian  : Bool
  hostBase       : Nat
deriving DecidableEq, Repr

/-- The six data bytes of a gyroscope read (20_memory.md R69). -/
structure SixBytes where
  b0 : Byte
  b1 : Byte
  b2 : Byte
  b3 : Byte
  b4 : Byte
  b5 : Byte
deriving DecidableEq, Repr, Inhabited

/-- The host's access of one cycle: none, HostRead(addr) or HostWrite(addr, v) (10_state.md R46). -/
inductive HostAccess where
  | none
  | read  (addr : Byte)
  | write (addr : Byte) (v : Word)
deriving DecidableEq, Repr, Inhabited

/-- The inputs of one cycle, each drawn by the environment (10_state.md R46). -/
structure Inputs where
  reset      : Bool
  echoIn     : Bool
  grspValid  : Bool
  grspStatus : Byte
  grspData   : SixBytes
  host       : HostAccess
deriving DecidableEq, Repr, Inhabited

/-- The environment's draw for the cycle numbered by its argument, used when State holds no input already drawn
(10_state.md R46, 60_exceptions.md R261; log entry 2). A free value: it has no body. -/
opaque Config.envInput : Nat → Inputs

/-- The draw behind the pattern of a NaN result: its sign and its fraction field less one, so that the fraction is
any nonzero 23-bit value (00_scope.md R10, 93_implementation_defined.md entry 16; log entry 3). No body. -/
opaque Config.nanDraw : Nat → Bool × Fin 8388607

end Sys2Proof
end

