-- ==== Sys2Proof/Syntax.lean ====
section
/-!
DEFINITION. The thirteen commands of the opcode table (30_encoding.md R83), one constructor each, with their
operands as R82's ARG forms give them. Every other command word selects ILLEGAL, which is no row of the table
(R84, R85): the decoder rejects it by name.
-/

namespace Sys2Proof

/-- A command and its operand. The `none` form has no operand: its ARG is ignored (R82, R86). -/
inductive Instr where
  /-- NOP (40_command.md R106). -/
  | nop
  /-- ECHO.TRIGGER (41_echo.md R126). -/
  | echoTrigger
  /-- ECHO.READ (41_echo.md R128). -/
  | echoRead
  /-- ECHO.CONVERT (41_echo.md R129): timer_count and overflow_count. -/
  | echoConvert (tc : Byte) (ovf : Half)
  /-- GYRO.INIT (42_heading.md R152): the range, a `u32`. -/
  | gyroInit (range : Word)
  /-- GYRO.CALIBRATE (42_heading.md R154). -/
  | gyroCalibrate
  /-- GYRO.SAMPLE (42_heading.md R155): dt, an `f32` pattern. -/
  | gyroSample (dt : Word)
  /-- GYRO.RESET (42_heading.md R156). -/
  | gyroReset
  /-- SERVO.SET_HEADING (43_servo.md R181): the yaw, an `f32` pattern. -/
  | servoSetHeading (yaw : Word)
  /-- SERVO.SET_PULSE (43_servo.md R182): the pulse, a `u32`. -/
  | servoSetPulse (pulse : Word)
  /-- SERVO.ANGLE_TO_PULSE (43_servo.md R183): the angle, an `s32`. -/
  | servoAngleToPulse (angle : Word)
  /-- GAP.FIND (44_gap.md R201). -/
  | gapFind
  /-- GAP.PULSE_TO_ANGLE (44_gap.md R208): the pulse, a `u32`. -/
  | gapPulseToAngle (pulse : Word)
deriving DecidableEq, Repr

/-- An operand as the assembler takes it (30_encoding.md R88): none, an integer literal, the two integers of the
`echo` form, a raw binary32 pattern, or a decimal floating literal `±digits / 10 ^ places`. -/
inductive AsmOperand where
  | none
  | int     (v : Int)
  | echo    (tc ovf : Int)
  | f32     (pattern : Word)
  | decimal (neg : Bool) (digits places : Nat)
deriving DecidableEq, Repr

end Sys2Proof
end

