-- ==== Sys2Proof/WellFormed.lean ====
section
/-!
DEFINITION. The named checks. A configuration passes the nine checks of 00_scope.md R8 or is refused. An `Instr`
needs no check: each operand has its form's width (30_encoding.md R82), and R82 says that the decoder checks no
operand's legal set. An assembler operand must fit its form (30_encoding.md R88).
-/

namespace Sys2Proof

/-- A pulse lies in the physical range [PULSE_MIN, PULSE_MAX]. -/
def Config.inRange (c : Config) (p : Half) : Bool :=
  decide (c.pulseMin ≤ p) && decide (p ≤ c.pulseMax)

/-- The angle of a right pulse as an integer (00_scope.md R7). -/
def RightAngle.toInt : RightAngle → Int
  | .plus90 => 90
  | .minus90 => -90

/-- `wf_range` (00_scope.md R8). -/
def Config.wfRange (c : Config) : Bool :=
  decide (c.pulseMin ≤ c.pulseMid) && decide (c.pulseMid ≤ c.pulseMax)

/-- `wf_table` (00_scope.md R8). -/
def Config.wfTable (c : Config) : Bool :=
  c.servoTable.toList.all c.inRange

/-- `wf_sweep_range` (00_scope.md R8). -/
def Config.wfSweepRange (c : Config) : Bool :=
  c.sweep.toList.all fun p => c.inRange p.pulse && decide (-90 ≤ p.angle) && decide (p.angle ≤ 90)

/-- `wf_fixed_pulses` (00_scope.md R8). -/
def Config.wfFixedPulses (c : Config) : Bool :=
  c.inRange c.pulseRight && c.inRange c.pulseLeft && c.inRange c.pulseCenter

/-- No element of the list occurs again after itself. -/
def allDistinct : List Half → Bool
  | [] => true
  | p :: ps => !(ps.contains p) && allDistinct ps

/-- `wf_sweep_distinct` (00_scope.md R8). -/
def Config.wfSweepDistinct (c : Config) : Bool :=
  allDistinct (c.sweep.toList.map SweepPoint.pulse)

/-- `wf_reverse_consistent` (00_scope.md R8). -/
def Config.wfReverseConsistent (c : Config) : Bool :=
  decide (c.pulseRight ≠ c.pulseLeft) &&
    c.sweep.toList.all fun p =>
      (p.pulse != c.pulseRight || decide (p.angle = c.angleRight.toInt)) &&
      (p.pulse != c.pulseLeft || decide (p.angle = -c.angleRight.toInt))

/-- `wf_nonzero_pulses` (00_scope.md R8). -/
def Config.wfNonzeroPulses (c : Config) : Bool :=
  decide (1#16 ≤ c.pulseMin)

/-- `wf_cal` (00_scope.md R8). -/
def Config.wfCal (c : Config) : Bool :=
  decide (1 ≤ c.calN) && decide (c.calN ≤ 65535)

/-- `wf_gyro_vals` (00_scope.md R8). -/
def Config.wfGyroVals (c : Config) : Bool :=
  decide (c.gyroDev < 128#8) && decide (c.gyroPreInit.length ≤ 65535)

/-- A configuration is well formed when all nine checks of 00_scope.md R8 hold. -/
def Config.wf (c : Config) : Bool :=
  c.wfRange && c.wfTable && c.wfSweepRange && c.wfFixedPulses && c.wfSweepDistinct &&
    c.wfReverseConsistent && c.wfNonzeroPulses && c.wfCal && c.wfGyroVals

/-- An integer literal fits the `u32` form (30_encoding.md R82, R88). -/
def fitsU32 (v : Int) : Bool :=
  decide (0 ≤ v) && decide (v < 2 ^ 32)

/-- An integer literal fits the `s32` form, a two's-complement 32-bit integer (30_encoding.md R82, R88;
log entry 10). -/
def fitsS32 (v : Int) : Bool :=
  decide (-(2 ^ 31) ≤ v) && decide (v < 2 ^ 31)

/-- The two integers fit the `echo` form: 0 ≤ tc ≤ 255 and 0 ≤ ovf ≤ 65535 (30_encoding.md R88). -/
def fitsEcho (tc ovf : Int) : Bool :=
  decide (0 ≤ tc) && decide (tc ≤ 255) && decide (0 ≤ ovf) && decide (ovf ≤ 65535)

end Sys2Proof
end

