-- ==== Sys2Proof/Decode.lean ====
section
/-!
DEFINITION. Decoding and encoding command words (30_encoding.md R80 to R87; the assembler is Machine/Assembler.lean). One format, CMD64: OPC in
bits 63:56, RSV in 55:32 (must be 0), ARG in 31:0.
-/

namespace Sys2Proof

/-- The OPC field (30_encoding.md R80). -/
def opcOf (w : CommandWord) : Byte := w.extractLsb' 56 8

/-- The RSV field (30_encoding.md R80). -/
def rsvOf (w : CommandWord) : BitVec 24 := w.extractLsb' 32 24

/-- The ARG field (30_encoding.md R80). -/
def argOf (w : CommandWord) : Word := w.extractLsb' 0 32

/-- CMD_OP as bits 63:32 and CMD_ARG as bits 31:0 (30_encoding.md R81, 20_memory.md R68). -/
def commandWord (op arg : Word) : CommandWord := op ++ arg

/-- Why a command word is illegal (30_encoding.md R85). -/
inductive Illegal where
  /-- RSV ≠ 0, whatever the opcode. -/
  | reservedBits
  /-- No row of R83 has the opcode. -/
  | unassignedOpcode
deriving DecidableEq, Repr

/-- timer_count of the `echo` form: ARG[7:0] (30_encoding.md R82). -/
def echoCount (arg : Word) : Byte := arg.extractLsb' 0 8

/-- overflow_count of the `echo` form: ARG[23:8]; ARG[31:24] is ignored (30_encoding.md R82). -/
def echoOverflow (arg : Word) : Half := arg.extractLsb' 8 16

/-- The opcode map of 30_encoding.md R83 with R82's operand forms. -/
def decodeOp (opc : Byte) (arg : Word) : Option Instr :=
  match opc with
  | 0x00#8 => some .nop
  | 0x01#8 => some .echoTrigger
  | 0x02#8 => some .echoRead
  | 0x03#8 => some (.echoConvert (echoCount arg) (echoOverflow arg))
  | 0x10#8 => some (.gyroInit arg)
  | 0x11#8 => some .gyroCalibrate
  | 0x12#8 => some (.gyroSample arg)
  | 0x13#8 => some .gyroReset
  | 0x20#8 => some (.servoSetHeading arg)
  | 0x21#8 => some (.servoSetPulse arg)
  | 0x22#8 => some (.servoAngleToPulse arg)
  | 0x30#8 => some .gapFind
  | 0x31#8 => some (.gapPulseToAngle arg)
  | _ => none

/-- Decoding is total: one command of R83, or illegal by name (30_encoding.md R84, R85). -/
def decode (w : CommandWord) : Except Illegal Instr :=
  if rsvOf w = 0#24 then
    match decodeOp (opcOf w) (argOf w) with
    | some i => .ok i
    | none => .error .unassignedOpcode
  else .error .reservedBits

/-- A command's opcode (30_encoding.md R83). -/
def Instr.opc : Instr → Byte
  | .nop => 0x00#8
  | .echoTrigger => 0x01#8
  | .echoRead => 0x02#8
  | .echoConvert _ _ => 0x03#8
  | .gyroInit _ => 0x10#8
  | .gyroCalibrate => 0x11#8
  | .gyroSample _ => 0x12#8
  | .gyroReset => 0x13#8
  | .servoSetHeading _ => 0x20#8
  | .servoSetPulse _ => 0x21#8
  | .servoAngleToPulse _ => 0x22#8
  | .gapFind => 0x30#8
  | .gapPulseToAngle _ => 0x31#8

/-- A command's ARG as software should write it: ignored bits 0 (30_encoding.md R82, R88). -/
def Instr.arg : Instr → Word
  | .echoConvert tc ovf => 0#8 ++ ovf ++ tc
  | .gyroInit range => range
  | .gyroSample dt => dt
  | .servoSetHeading yaw => yaw
  | .servoSetPulse pulse => pulse
  | .servoAngleToPulse angle => angle
  | .gapPulseToAngle pulse => pulse
  | .nop => 0#32
  | .echoTrigger => 0#32
  | .echoRead => 0#32
  | .gyroCalibrate => 0#32
  | .gyroReset => 0#32
  | .gapFind => 0#32

/-- The bits of ARG that a command reads; the others are ignored (30_encoding.md R82, R86). -/
def Instr.argMask : Instr → Word
  | .echoConvert _ _ => 0x00FFFFFF#32
  | .gyroInit _ => 0xFFFFFFFF#32
  | .gyroSample _ => 0xFFFFFFFF#32
  | .servoSetHeading _ => 0xFFFFFFFF#32
  | .servoSetPulse _ => 0xFFFFFFFF#32
  | .servoAngleToPulse _ => 0xFFFFFFFF#32
  | .gapPulseToAngle _ => 0xFFFFFFFF#32
  | .nop => 0#32
  | .echoTrigger => 0#32
  | .echoRead => 0#32
  | .gyroCalibrate => 0#32
  | .gyroReset => 0#32
  | .gapFind => 0#32

/-- CMD_OP of a command: OPC << 24, with RSV 0 (30_encoding.md R81, R89). -/
def Instr.cmdOp (i : Instr) : Word := i.opc ++ 0#24

/-- The command word of a command (30_encoding.md R80). -/
def encode (i : Instr) : CommandWord := commandWord i.cmdOp i.arg

/-- The ISSUE pseudo-instruction: CMD_ARG first, then CMD_OP (30_encoding.md R81, R89). -/
def issue (i : Instr) : List HostAccess :=
  [.write 0x00#8 i.arg, .write 0x04#8 i.cmdOp]

/-- The instruction the decoder reads from the low `nbits` bits of `w`, the command word's bits above them 0. The
command word is one 64-bit word, so the table's bit numbers are its own (30_encoding.md R80, R87). -/
def decodeTableWord (nbits w : Nat) : Option Instr :=
  match decode (BitVec.ofNat 64 (w % 2 ^ nbits)) with
  | .ok i => some i
  | .error _ => none

end Sys2Proof
end

