-- ==== Sys2Proof/Machine/Example.lean ====
section
/-!
DEFINITION. EX1, the one complete configuration that spec/ writes down (95_test_vectors.md section 1, with the
gyroscope defaults of 93_implementation_defined.md section 2). State.reset carries it (log entry 1); no meaning and
no statement names it: they read the configuration that the state holds.
-/

namespace Sys2Proof

/-- SERVO_TABLE of EX1 at index `i`, that is for angle `i - 90`: 1500 plus or minus trunc(|angle| × 500 / 90). -/
def ex1Pulse (i : Nat) : Half :=
  if 90 ≤ i then BitVec.ofNat 16 (1500 + (i - 90) * 500 / 90)
  else BitVec.ofNat 16 (1500 - (90 - i) * 500 / 90)

/-- EX1 (95_test_vectors.md section 1). EX1 lists no HOST_BASE, which the spec leaves OPEN (20_memory.md R71): its value
0 is the model's own. DESIGN CHOICE, unsafe for a claim that reads this field of State.reset, safe for every other: no
definition reads it (log entry 14). -/
def Config.ex1 : Config where
  pulseMin := 1000#16
  pulseMid := 1500#16
  pulseMax := 2000#16
  servoTable := ⟨((List.range 181).map ex1Pulse).toArray, by simp⟩
  sweep := ⟨#[⟨-90, 1000#16⟩, ⟨-60, 1167#16⟩, ⟨-30, 1334#16⟩, ⟨0, 1500#16⟩, ⟨30, 1666#16⟩, ⟨60, 1833#16⟩,
    ⟨90, 2000#16⟩], rfl⟩
  pulseRight := 2000#16
  pulseLeft := 1000#16
  pulseCenter := 1500#16
  angleRight := .plus90
  calN := 4
  calDelayMs := 3#16
  gyroDev := 0x68#8
  gyroPreInit := [⟨0x6B#8, 0x00#8⟩]
  gyroRangeReg := 0x1B#8
  gyroRangeVal := ⟨0x00#8, 0x08#8, 0x10#8, 0x18#8⟩
  gyroDataReg := 0x43#8
  gyroBigEndian := true
  hostBase := 0

end Sys2Proof
end

