-- ==== Sys2Proof/Machine/State.lean ====
section
/-!
DEFINITION. The state of the block: every register of 10_state.md R22 to R44, the outputs of the cycle just run
(R47), the configuration it was built with (00_scope.md R7) and the model's own fields (log entries 2, 3, 5), with
the reset values of R50.
-/

namespace Sys2Proof.Machine

/-- The status codes 0 to 11 of 60_exceptions.md R246. Codes 12 to 15 are reserved and never produced, so no
constructor stands for one (93_implementation_defined.md entry 17). -/
inductive Code where
  | ok
  | illegal
  | invalidRange
  | gyroBusErr
  | notInit
  | alreadyCal
  | headingRange
  | pulseRange
  | angleDomain
  | noGap
  | notMappable
  | stale
deriving DecidableEq, Repr

/-- PATH of GAP_INFO (10_state.md R39): 0 not run, 1 right, 2 left, 3 sweep. -/
inductive GapPath where
  | notRun
  | right
  | left
  | sweep
deriving DecidableEq, Repr

/-- The segment labels of the commands: S0 of every command, and the later segments, each named after the label
of its command's pseudocode. NX and GC are reached by `goto` within a segment, so no cycle begins at one. -/
inductive Seg where
  /-- The first segment of any command; G0 of GAP.FIND. -/
  | s0
  /-- S1 of ECHO.READ (41_echo.md R128). -/
  | readS1
  /-- PW of GYRO.INIT (42_heading.md R152). -/
  | initPW
  /-- RW of GYRO.INIT. -/
  | initRW
  /-- C1 of GYRO.CALIBRATE (42_heading.md R154). -/
  | calC1
  /-- C2 of GYRO.CALIBRATE. -/
  | calC2
  /-- S1 of GYRO.SAMPLE (42_heading.md R155). -/
  | sampleS1
  /-- G1 to G6 and GE of GAP.FIND (44_gap.md R201). -/
  | g1
  | g2
  | g3
  | g4
  | g5
  | g6
  | ge
deriving DecidableEq, Repr

/-- SEQ_STEP (10_state.md R41): IDLE, or the label of the next segment of the command in progress. The command of
the pair is decode(CUR_OP), which nothing changes while BUSY = 1 (40_command.md R100, R105; log entry 6). -/
inductive SeqStep where
  | idle
  | seg (label : Seg)
deriving DecidableEq, Repr

/-- The kind of a bus request (10_state.md R44, R47). -/
inductive BusKind where
  | write
  | read
deriving DecidableEq, Repr

/-- A gyroscope request as the port drives it in the one cycle with GREQ_VALID = 1 (10_state.md R47,
20_memory.md R72). -/
structure GyroRequest where
  kind  : BusKind
  dev   : BitVec 7
  reg   : Byte
  data  : Byte
  count : Byte
deriving DecidableEq, Repr

/-- A gyroscope response (20_memory.md R73). -/
structure GyroResponse where
  status : Byte
  data   : SixBytes
deriving DecidableEq, Repr

/-- The state record (10_state.md R20), flat and plain data. -/
structure State where
  /-- The configuration, a parameter (00_scope.md R7): no step changes it. -/
  cfg         : Config
  /-- TCNT (R22). -/
  tcnt        : Byte
  /-- OVF (R23). -/
  ovf         : Half
  /-- TRUN (R24). -/
  trun        : Bool
  /-- PHASE (R25). -/
  phase       : Bool
  /-- ECHO_SYNC (R26). -/
  echoSync    : Bool
  /-- ECHO_NEW (R27). -/
  echoNew     : Bool
  /-- DURATION (R28). -/
  duration    : Word
  /-- DIST (R29). -/
  dist        : Word
  /-- TRIG_CNT (R30). -/
  trigCnt     : Byte
  /-- GYRO_SENS (R31), a binary32 pattern. -/
  gyroSens    : Word
  /-- GYRO_RANGE (R32). -/
  gyroRange   : Word
  /-- INIT_OK (R33). -/
  initOk      : Bool
  /-- CAL_DONE (R34). -/
  calDone     : Bool
  /-- GYRO_OFF_X, GYRO_OFF_Y, GYRO_OFF_Z (R35), binary32 patterns. -/
  gyroOffX    : Word
  gyroOffY    : Word
  gyroOffZ    : Word
  /-- HEAD_ROLL, HEAD_PITCH, HEAD_YAW (R36), binary32 patterns. -/
  headRoll    : Word
  headPitch   : Word
  headYaw     : Word
  /-- SERVO_PULSE (R37). -/
  servoPulse  : Half
  /-- PWM_WR of the cycle just run (R37, R47). -/
  pwmWr       : Bool
  /-- PWM_WRITES (R38). -/
  pwmWrites   : Word
  /-- GAP_SEL (R39). -/
  gapSel      : Half
  /-- GAP_MAXD (R39). -/
  gapMaxd     : Word
  /-- PATH of GAP_INFO (R39). -/
  gapPath     : GapPath
  /-- IDX of GAP_INFO (R39). -/
  gapIdx      : BitVec 3
  /-- STALE_ANY of GAP_INFO (R39). -/
  gapStaleAny : Bool
  /-- SEQ_K (R39). -/
  seqK        : BitVec 3
  /-- CMD_ARG and CMD_OP (R40). -/
  cmdArg      : Word
  cmdOp       : Word
  /-- CUR_OP and CUR_ARG (R40). -/
  curOp       : Word
  curArg      : Word
  /-- BUSY (R42). -/
  busy        : Bool
  /-- CODE (R42). -/
  code        : Code
  /-- CFG_FATAL (R42). -/
  cfgFatal    : Bool
  /-- OVR (R42). -/
  ovr         : Bool
  /-- LAST_OPC (R42). -/
  lastOpc     : Byte
  /-- RESULT (R43). -/
  result      : Word
  /-- SEQ_STEP (R41). -/
  seqStep     : SeqStep
  /-- SEQ_WAIT (R41). -/
  seqWait     : Word
  /-- SEQ_I (R41). -/
  seqI        : Half
  /-- CAL_SUM_X, CAL_SUM_Y, CAL_SUM_Z (R41), binary32 patterns. -/
  calSumX     : Word
  calSumY     : Word
  calSumZ     : Word
  /-- BUS_PEND with the kind of the outstanding request (R41, R44): `none` is BUS_PEND = 0. -/
  busPend     : Option BusKind
  /-- The request driven in the cycle just run (R47): `none` is GREQ_VALID = 0 (log entry 4). -/
  greq        : Option GyroRequest
  /-- HOST_RDATA of the cycle just run (R47): `none` in a cycle with no host read (log entry 4). -/
  hostRData   : Option Word
  /-- The model's own: the response accepted in phase 5 of the cycle being run (20_memory.md R73; log entry 5). -/
  busRsp      : Option GyroResponse
  /-- The model's own: inputs already drawn for the coming cycles, the next first (log entry 2). -/
  script      : List Inputs
  /-- The model's own: the number of the cycle, which indexes the free draws (log entries 2 and 3). -/
  cycle       : Nat
deriving DecidableEq, Repr

/-- Why the machine stops with a fault. The spec has no traps (60_exceptions.md R248), so neither is the block's. -/
inductive Fault where
  /-- Raised by a command's meaning when SEQ_STEP names a label that the command does not have. No run from reset
  reaches it (`BlockInv` of Safety.lean; log entry 12). Safe: the machine stops where the spec gives no segment. -/
  | noSuchSegment
  /-- Raised by a read of SERVO_TABLE or SWEEP outside its entries (20_memory.md R67). No run from reset reaches
  it: only SEQ_K = 7 could (log entry 12). Safe: the machine stops where the spec has no table entry. -/
  | romAddress
deriving DecidableEq, Repr

/-- Why the model gives a step no meaning. -/
inductive Refusal where
  /-- Raised by an arm of `exec` for an instruction that has no meaning yet. Safe. No arm raises it now. -/
  | notModelled (mnemonic : String)
  /-- Raised by `step` in every cycle of a machine whose configuration fails a check of 00_scope.md R8: the spec
  gives such a configuration no meaning (93_implementation_defined.md entry 1; log entry 8). Safe. -/
  | badConfiguration
deriving DecidableEq, Repr

/-- The reset values of 10_state.md R50 for a block built with configuration `cfg`, at the end of a cycle with
RESET = 1 (70_reset_and_hazards.md R270, R271), nothing drawn yet. -/
def State.resetWith (cfg : Config) : State where
  cfg := cfg
  tcnt := 0#8
  ovf := 0#16
  trun := false
  phase := false
  echoSync := false
  echoNew := false
  duration := 0#32
  dist := 0#32
  trigCnt := 0#8
  gyroSens := 0x43030000#32
  gyroRange := 0#32
  initOk := false
  calDone := false
  gyroOffX := 0#32
  gyroOffY := 0#32
  gyroOffZ := 0#32
  headRoll := 0#32
  headPitch := 0#32
  headYaw := 0#32
  servoPulse := 0#16
  pwmWr := false
  pwmWrites := 0#32
  gapSel := 0#16
  gapMaxd := 0#32
  gapPath := .notRun
  gapIdx := 7#3
  gapStaleAny := false
  seqK := 0#3
  cmdArg := 0#32
  cmdOp := 0#32
  curOp := 0#32
  curArg := 0#32
  busy := false
  code := .ok
  cfgFatal := false
  ovr := false
  lastOpc := 0x00#8
  result := 0#32
  seqStep := .idle
  seqWait := 0#32
  seqI := 0#16
  calSumX := 0#32
  calSumY := 0#32
  calSumZ := 0#32
  busPend := none
  greq := none
  hostRData := some 0#32
  busRsp := none
  script := []
  cycle := 0

/-- The machine right after reset (70_reset_and_hazards.md R271), with the configuration EX1 (log entry 1). -/
def State.reset : State := State.resetWith Config.ex1

end Sys2Proof.Machine
end

