-- ==== Sys2Proof/Machine/Flags.lean ====
section
/-!
DEFINITION. The words software reads, assembled from the flags and fields that State holds once: STATUS,
ECHO_STATE, GAP_INFO, TRIG_OUT and PWM_VAL.
-/

namespace Sys2Proof.Machine

/-- The number of a status code (60_exceptions.md R246). -/
def Code.bits : Code → BitVec 4
  | .ok => 0#4
  | .illegal => 1#4
  | .invalidRange => 2#4
  | .gyroBusErr => 3#4
  | .notInit => 4#4
  | .alreadyCal => 5#4
  | .headingRange => 6#4
  | .pulseRange => 7#4
  | .angleDomain => 8#4
  | .noGap => 9#4
  | .notMappable => 10#4
  | .stale => 11#4

/-- The number of a PATH (10_state.md R39). -/
def GapPath.bits : GapPath → BitVec 2
  | .notRun => 0#2
  | .right => 1#2
  | .left => 2#2
  | .sweep => 3#2

/-- A flag as one bit. -/
def bit (b : Bool) : BitVec 1 := BitVec.ofBool b

/-- TRIG_OUT (10_state.md R30, R47). -/
def State.trigOut (s : State) : Bool := decide (s.trigCnt ≠ 0#8)

/-- PWM_VAL (10_state.md R37). -/
def State.pwmVal (s : State) : Half := s.servoPulse

/-- BUS_PEND as the flag of 10_state.md R44. -/
def State.busPending (s : State) : Bool := s.busPend.isSome

/-- STATUS with the fields of 10_state.md R42; bits not listed read 0. -/
def State.statusWord (s : State) : Word :=
  0#8 ++ s.lastOpc ++ 0#4 ++ bit s.calDone ++ bit s.initOk ++ bit s.ovr ++ bit s.cfgFatal ++ s.code.bits ++ 0#3 ++
    bit s.busy

/-- ECHO_STATE with the fields of 20_memory.md R63. -/
def State.echoStateWord (s : State) : Word :=
  s.ovf ++ s.tcnt ++ 0#3 ++ bit s.echoSync ++ bit s.trigOut ++ bit s.trun ++ bit s.echoNew ++ bit s.phase

/-- GAP_INFO with the fields of 10_state.md R39; all other bits read 0. -/
def State.gapInfoWord (s : State) : Word :=
  0#23 ++ bit s.gapStaleAny ++ 0#1 ++ s.gapIdx ++ 0#2 ++ s.gapPath.bits

end Sys2Proof.Machine
end

