-- ==== Sys2Proof/Machine/Constants.lean ====
section
/-!
DEFINITION. The constants of the block: the parameters the source fixes and the ones the spec decides
(00_scope.md R5, R6).
-/

namespace Sys2Proof.Machine

/-- DIST_DIVISOR (00_scope.md R5). -/
def distDivisor : Word := 58#32

/-- OVF_SHIFT (00_scope.md R5). -/
def ovfShift : Nat := 8

/-- CYC_PER_MS (00_scope.md R6). -/
def cycPerMs : Nat := 2000

/-- TRIG_CYCLES (00_scope.md R6). -/
def trigCycles : Nat := 20

/-- WINDOW_CYCLES = WINDOW_MS × CYC_PER_MS (00_scope.md R5, R6). -/
def windowCycles : Nat := 40000

/-- SETTLE_CYCLES = SETTLE_MS × CYC_PER_MS (00_scope.md R5, R6). -/
def settleCycles : Nat := 2000000

/-- CLEAR_THRESH in cm (00_scope.md R5; 44_gap.md R202). -/
def clearThresh : Word := 37#32

/-- The index of the last sweep point, SWEEP_LEN - 1 (00_scope.md R5). -/
def lastSweep : BitVec 3 := 6#3

/-- IDX of GAP_INFO when no sweep point has won (10_state.md R39). -/
def noIdx : BitVec 3 := 7#3

/-- The number of bytes of a rate read (20_memory.md R72). -/
def rateBytes : Byte := 6#8

end Sys2Proof.Machine
end

