-- ==== Sys2Proof/Machine/Float.lean ====
section
/-!
DEFINITION. IEEE 754 binary32 as 00_scope.md R10 uses it: exact operations on magnitudes counted in units of
2^-149 (the least subnormal), each followed by one rounding to nearest, ties to even. Subnormals are kept, nothing
is fused. A NaN is one value here; its pattern is drawn only when a register takes it (log entry 3).
-/

namespace Sys2Proof

/-- A binary32 value. `fin neg mag` is ±mag × 2^-149, so both zeros are `fin _ 0`. -/
inductive F32 where
  | nan
  | inf (neg : Bool)
  | fin (neg : Bool) (mag : Nat)
deriving DecidableEq, Repr

namespace F32

/-- One, in units of 2^-149. -/
def one : Nat := 2 ^ 149

/-- The least magnitude that is no longer finite, 2^128, in units of 2^-149. -/
def limit : Nat := 2 ^ 128 * 2 ^ 149

/-- The value of a 32-bit pattern (00_scope.md R10). -/
def ofBits (b : Word) : F32 :=
  let e := (b.extractLsb' 23 8).toNat
  let f := (b.extractLsb' 0 23).toNat
  if e = 255 then
    if f = 0 then .inf b.msb else .nan
  else if e = 0 then .fin b.msb f
  else .fin b.msb ((f + 2 ^ 23) * 2 ^ (e - 1))

/-- The exponent and fraction fields of a representable finite magnitude. -/
def magBits (mag : Nat) : Nat :=
  let k := Nat.log2 mag - 23
  k * 2 ^ 23 + mag / 2 ^ k

/-- The sign bit in place. -/
def signBit (neg : Bool) : Nat :=
  if neg then 2 ^ 31 else 0

/-- The 32-bit pattern of a value; a NaN takes the pattern handed in (00_scope.md R10). -/
def toBits (nanPattern : Word) : F32 → Word
  | .nan => nanPattern
  | .inf neg => BitVec.ofNat 32 (signBit neg + 255 * 2 ^ 23)
  | .fin neg mag => BitVec.ofNat 32 (signBit neg + magBits mag)

/-- The number of low bits that a magnitude of `q` units has beyond a 24-bit significand. -/
def excessBits (q : Nat) : Nat :=
  Nat.log2 q - 23

/-- `n / u` to the nearest integer, ties to even. -/
def divNearestEven (n u : Nat) : Nat :=
  let m := n / u
  let r := n % u
  if u < 2 * r ∨ (2 * r = u ∧ m % 2 = 1) then m + 1 else m

/-- The exact magnitude `n / d`, in units of 2^-149, rounded to binary32: to nearest, ties to even, and to infinity
from 2^128 on (00_scope.md R10). -/
def round (neg : Bool) (n d : Nat) : F32 :=
  let k := excessBits (n / d)
  let mag := divNearestEven n (d * 2 ^ k) * 2 ^ k
  if mag < limit then .fin neg mag else .inf neg

/-- `f32(i)`: the integer as a binary32 value, exact for the integers the block converts (00_scope.md R10). -/
def ofInt (i : Int) : F32 :=
  round (decide (i < 0)) (i.natAbs * one) 1

/-- The value with its sign changed. -/
def neg : F32 → F32
  | .nan => .nan
  | .inf s => .inf (!s)
  | .fin s m => .fin (!s) m

/-- `+f` (00_scope.md R10). A zero sum of opposite signs is +0. -/
def add : F32 → F32 → F32
  | .nan, _ => .nan
  | .inf _, .nan => .nan
  | .inf s, .inf t => if s = t then .inf s else .nan
  | .inf s, .fin _ _ => .inf s
  | .fin _ _, .nan => .nan
  | .fin _ _, .inf t => .inf t
  | .fin s m, .fin t n =>
    if s = t then round s (m + n) 1
    else if m = n then .fin false 0
    else if n < m then round s (m - n) 1
    else round t (n - m) 1

/-- `−f` (00_scope.md R10). -/
def sub (a b : F32) : F32 :=
  add a (neg b)

/-- `×f` (00_scope.md R10). -/
def mul : F32 → F32 → F32
  | .nan, _ => .nan
  | .inf _, .nan => .nan
  | .inf s, .inf t => .inf (xor s t)
  | .inf s, .fin t n => if n = 0 then .nan else .inf (xor s t)
  | .fin _ _, .nan => .nan
  | .fin s m, .inf t => if m = 0 then .nan else .inf (xor s t)
  | .fin s m, .fin t n => round (xor s t) (m * n) one

/-- `/f` (00_scope.md R10). -/
def div : F32 → F32 → F32
  | .nan, _ => .nan
  | .inf _, .nan => .nan
  | .inf _, .inf _ => .nan
  | .inf s, .fin t _ => .inf (xor s t)
  | .fin _ _, .nan => .nan
  | .fin s _, .inf t => .fin (xor s t) 0
  | .fin s m, .fin t n =>
    if n = 0 then (if m = 0 then .nan else .inf (xor s t))
    else round (xor s t) (m * one) n

/-- A value's place on the line, in units of 2^-149; a NaN has none and both zeros have the same. -/
def place : F32 → Option Int
  | .nan => none
  | .inf neg => some (if neg then -(limit : Int) else limit)
  | .fin neg mag => some (if neg then -(mag : Int) else mag)

/-- `<f`: the ordered comparison, false when either operand is a NaN (00_scope.md R10). -/
def lt (a b : F32) : Bool :=
  match a.place, b.place with
  | some x, some y => decide (x < y)
  | _, _ => false

/-- `>f` (00_scope.md R10). -/
def gt (a b : F32) : Bool :=
  lt b a

/-- `round_half_away(x)`: the integer nearest x, ties away from zero (00_scope.md R10). A NaN or an infinity has no
nearest integer. -/
def roundHalfAway : F32 → Option Int
  | .nan => none
  | .inf _ => none
  | .fin neg mag =>
    let a : Nat := (2 * mag + one) / (2 * one)
    some (if neg then -(a : Int) else a)

/-- The pattern of the `n`-th NaN draw: any sign, any nonzero fraction (00_scope.md R10; log entry 3). -/
def nanPattern (n : Nat) : Word :=
  let d := Config.nanDraw n
  BitVec.ofNat 32 (signBit d.1 + 255 * 2 ^ 23 + (d.2.val + 1))

/-- A NaN pattern: exponent all ones and a nonzero fraction. -/
def isNanPattern (b : Word) : Bool :=
  decide (b.extractLsb' 23 8 = 255#8) && decide (b.extractLsb' 0 23 ≠ 0#23)

end F32
end Sys2Proof
end

