-- ==== Sys2Proof/Machine/Operands.lean ====
section
/-!
DEFINITION. What the commands compute from their operands, the ROM tables and the bus bytes: pure functions, no
state is written here. The ARG forms themselves are the decoder's (30_encoding.md R82).
-/

namespace Sys2Proof.Machine

/-- The four ranges of GYRO_RANGES (00_scope.md R5). -/
inductive GyroRange where
  | dps250
  | dps500
  | dps1000
  | dps2000
deriving DecidableEq, Repr

/-- The range test of 42_heading.md R152, on the whole 32-bit operand. -/
def rangeOf (r : Word) : Option GyroRange :=
  match r with
  | 250#32 => some .dps250
  | 500#32 => some .dps500
  | 1000#32 => some .dps1000
  | 2000#32 => some .dps2000
  | _ => none

/-- `sens(r)` as a binary32 pattern (42_heading.md R153). -/
def sens : GyroRange → Word
  | .dps250 => 0x43030000#32
  | .dps500 => 0x42830000#32
  | .dps1000 => 0x42033333#32
  | .dps2000 => 0x41833333#32

/-- GYRO_RANGE_VAL(r) (00_scope.md R7). -/
def rangeVal (v : RangeValues) : GyroRange → Byte
  | .dps250 => v.v250
  | .dps500 => v.v500
  | .dps1000 => v.v1000
  | .dps2000 => v.v2000

/-- A pair of bus bytes as a 16-bit two's-complement integer, the first byte high when GYRO_BIG_ENDIAN
(20_memory.md R69, 42_heading.md R150). -/
def pairInt (bigEndian : Bool) (first second : Byte) : Int :=
  if bigEndian then (first ++ second).toInt else (second ++ first).toInt

/-- The raw rate of the X axis (42_heading.md R150). -/
def rawX (cfg : Config) (b : SixBytes) : Int := pairInt cfg.gyroBigEndian b.b0 b.b1

/-- The raw rate of the Y axis (42_heading.md R150). -/
def rawY (cfg : Config) (b : SixBytes) : Int := pairInt cfg.gyroBigEndian b.b2 b.b3

/-- The raw rate of the Z axis (42_heading.md R150). -/
def rawZ (cfg : Config) (b : SixBytes) : Int := pairInt cfg.gyroBigEndian b.b4 b.b5

/-- `scaled(v) = f32(v) /f GYRO_SENS` (42_heading.md R151). -/
def scaled (sensitivity : Word) (v : Int) : F32 :=
  (F32.ofInt v).div (F32.ofBits sensitivity)

/-- One axis of GYRO.CALIBRATE's C1: CAL_SUM +f scaled(v) (42_heading.md R154). -/
def addSample (sum sensitivity : Word) (v : Int) : F32 :=
  (F32.ofBits sum).add (scaled sensitivity v)

/-- One axis of GYRO.CALIBRATE's C2: CAL_SUM /f f32(CAL_N) (42_heading.md R154). -/
def meanOf (sum : Word) (n : Nat) : F32 :=
  (F32.ofBits sum).div (F32.ofInt n)

/-- One axis of GYRO.SAMPLE's S1: HEAD +f ((scaled(v) −f OFF) ×f dt) (42_heading.md R155). -/
def integrate (head off sensitivity dt : Word) (v : Int) : F32 :=
  (F32.ofBits head).add (((scaled sensitivity v).sub (F32.ofBits off)).mul (F32.ofBits dt))

/-- CAL_DELAY_CYCLES = CAL_DELAY_MS × CYC_PER_MS (00_scope.md R7). -/
def calDelayCycles (cfg : Config) : Nat := cfg.calDelayMs.toNat * cycPerMs

/-- ROM_TABLE(i) = SERVO_TABLE[i]; nothing outside 0..180 (00_scope.md R11, 20_memory.md R67). -/
def romTable (cfg : Config) (i : Int) : Option Half :=
  if 0 ≤ i then cfg.servoTable[i.toNat]? else none

/-- ROM_SWEEP(k) = SWEEP[k]; nothing outside 0..6 (00_scope.md R11, 20_memory.md R67). -/
def romSweep (cfg : Config) (k : BitVec 3) : Option SweepPoint :=
  cfg.sweep[k.toNat]?

/-- The raw duration TCNT + (OVF << 8) in ticks (41_echo.md R125, R129). -/
def rawTicks (tc : Byte) (ovf : Half) : Word :=
  tc.setWidth 32 + (ovf.setWidth 32 <<< ovfShift)

/-- The raw duration halved (41_echo.md R125). -/
def halve (raw : Word) : Word := raw >>> 1

/-- A corrected duration as a distance in cm (41_echo.md R127, R129). -/
def distanceOf (corrected : Word) : Word := corrected / distDivisor

/-- The open range test of SERVO.SET_HEADING: y >f −90.0 and y <f 90.0 (43_servo.md R181). -/
def headingInRange (y : F32) : Bool :=
  y.gt (F32.ofInt (-90)) && y.lt (F32.ofInt 90)

/-- The table pulse for a heading: ROM_TABLE(round_half_away(y) + 90) (43_servo.md R181). -/
def headingPulse (cfg : Config) (y : F32) : Option Half :=
  y.roundHalfAway.bind fun a => romTable cfg (a + 90)

/-- The fallback map of SERVO.ANGLE_TO_PULSE on 0..180, with its exact integer products (43_servo.md R183). -/
def anglePulse (cfg : Config) (a : Int) : Option Int :=
  let lo : Int := cfg.pulseMin.toNat
  let mid : Int := cfg.pulseMid.toNat
  let hi : Int := cfg.pulseMax.toNat
  if 0 ≤ a ∧ a ≤ 90 then some (lo + (a * (mid - lo)).tdiv 90)
  else if 91 ≤ a ∧ a ≤ 180 then some (mid + ((a - 91) * (hi - mid)).tdiv 89)
  else none

/-- The angle of the first sweep point with the pulse (44_gap.md R208). -/
def sweepAngle (p : Word) : List SweepPoint → Option Int
  | [] => none
  | q :: qs => if p = q.pulse.setWidth 32 then some q.angle else sweepAngle p qs

/-- The reverse map: right, then left, then the sweep points in order (44_gap.md R208). -/
def reverseAngle (cfg : Config) (p : Word) : Option Int :=
  if p = cfg.pulseRight.setWidth 32 then some cfg.angleRight.toInt
  else if p = cfg.pulseLeft.setWidth 32 then some (-cfg.angleRight.toInt)
  else sweepAngle p cfg.sweep.toList

end Sys2Proof.Machine
end

