-- ==== Sys2Proof/Machine/Ops.lean ====
section
/-!
DEFINITION. The shared operations of the command bodies (00_scope.md R11, R12) and of the echo unit's autonomous
parts. The spec has no trap entry and no trap return (60_exceptions.md R248, R249): a command reports every error by
`finish`, which is written here once.
-/

namespace Sys2Proof.Machine

/-- `finish(code)` (40_command.md R103). -/
def finish (c : Code) (s : State) : State :=
  { s with code := c, lastOpc := s.curOp.extractLsb' 24 8, busy := false, seqStep := .idle, seqWait := 0#32 }

/-- `wait(n)`, after which the segment `next` runs in cycle c + max(n, 1) (00_scope.md R12, 10_state.md R45). -/
def waitThen (n : Nat) (next : Seg) (s : State) : State :=
  { s with seqStep := .seg next, seqWait := BitVec.ofNat 32 (n - 1) }

/-- `bus_write(GYRO_DEV, reg, val)`, answered at the segment `next` (20_memory.md R72). -/
def busWrite (reg val : Byte) (next : Seg) (s : State) : State :=
  { s with
    greq := some { kind := .write, dev := s.cfg.gyroDev.setWidth 7, reg := reg, data := val, count := 0#8 }
    busPend := some .write
    seqStep := .seg next }

/-- `bus_read(GYRO_DEV, GYRO_DATA_REG, 6)`, answered at the segment `next` (20_memory.md R72). -/
def busRead (next : Seg) (s : State) : State :=
  { s with
    greq := some
      { kind := .read, dev := s.cfg.gyroDev.setWidth 7, reg := s.cfg.gyroDataReg, data := 0#8, count := rateBytes }
    busPend := some .read
    seqStep := .seg next }

/-- `servo_write(p)`, the checked PWM write (43_servo.md R180). -/
def servoWrite (p : Half) (s : State) : State :=
  if s.cfg.inRange p then { s with servoPulse := p, pwmWr := true, pwmWrites := s.pwmWrites + 1#32 } else s

/-- Segment M0 of `echo_measure`, answered at the segment `next` (41_echo.md R127). -/
def measureStart (next : Seg) (s : State) : State :=
  waitThen (trigCycles + windowCycles) next
    { s with echoNew := false, trigCnt := BitVec.ofNat 8 trigCycles }

/-- The distance d that segment M1 of `echo_measure` computes (41_echo.md R127). -/
def measured (s : State) : Word := distanceOf s.duration

/-- Segment M1 of `echo_measure`: DIST takes d; `fresh` is ECHO_NEW (41_echo.md R127). -/
def measureEnd (s : State) : State :=
  { s with dist := measured s }

/-- The latching of a command word with its first segment next (40_command.md R100). -/
def latchCommand (op arg : Word) (s : State) : State :=
  { s with curOp := op, curArg := arg, busy := true, seqStep := .seg .s0, seqWait := 0#32 }

/-- The pattern a register takes for a binary32 result: its own, or the draw for this cycle and axis where it is a
NaN (00_scope.md R10; log entry 3). -/
def storeF32 (s : State) (axis : Nat) (v : F32) : Word :=
  v.toBits (F32.nanPattern (3 * s.cycle + axis))

/-- The timer phase (41_echo.md R120, R121). -/
def timerTick (s : State) : State :=
  if s.trun then
    if s.tcnt = 255#8 then { s with tcnt := 0#8, ovf := s.ovf + 1#16 }
    else { s with tcnt := s.tcnt + 1#8 }
  else s

/-- The trigger phase (41_echo.md R122). -/
def triggerTick (s : State) : State :=
  if s.trigCnt ≠ 0#8 then { s with trigCnt := s.trigCnt - 1#8 } else s

/-- `rising_edge()` (41_echo.md R124). -/
def risingEdge (s : State) : State :=
  { s with tcnt := 0#8, ovf := 0#16, trun := true, phase := true }

/-- `falling_edge()` (41_echo.md R125). -/
def fallingEdge (s : State) : State :=
  { s with trun := false, duration := halve (rawTicks s.tcnt s.ovf), phase := false, echoNew := true }

/-- The edge phase: the sample is compared with ECHO_SYNC, and PHASE alone picks the handler (41_echo.md R123). -/
def edgePhase (echoIn : Bool) (s : State) : State :=
  if echoIn ≠ s.echoSync then
    let t := { s with echoSync := echoIn }
    if s.phase then fallingEdge t else risingEdge t
  else s

/-- The bus-response phase: a response is accepted when one is outstanding (20_memory.md R73). -/
def busPhase (inp : Inputs) (s : State) : State :=
  if s.busPending && inp.grspValid then
    { s with busPend := none, busRsp := some { status := inp.grspStatus, data := inp.grspData } }
  else s

/-- Phases 2 to 5 in their fixed order (10_state.md R45, 60_exceptions.md R245). -/
def autonomous (inp : Inputs) (s : State) : State :=
  busPhase inp (edgePhase inp.echoIn (triggerTick (timerTick s)))

/-- The inputs of the next cycle: the first already drawn, or a free draw (10_state.md R46; log entry 2). -/
def nextInputs (s : State) : Inputs :=
  match s.script with
  | inp :: _ => inp
  | [] => Config.envInput s.cycle

/-- The inputs of the cycle `k` cycles after the next one, were the machine to run until then: drawn already, or
drawn freely (10_state.md R46). -/
def State.inputsAt (s : State) (k : Nat) : Inputs :=
  match s.script[k]? with
  | some inp => inp
  | none => Config.envInput (s.cycle + k)

/-- The beginning of a cycle: its inputs are consumed and the strobes of the last cycle end (10_state.md R37, R47). -/
def beginCycle (s : State) : State :=
  { s with
    script := s.script.tail
    cycle := s.cycle + 1
    pwmWr := false
    greq := none
    hostRData := none
    busRsp := none }

/-- A cycle with RESET = 1: every register takes its reset value; the configuration is no register
(70_reset_and_hazards.md R270 to R272). -/
def resetCycle (s : State) : State :=
  { State.resetWith s.cfg with script := s.script, cycle := s.cycle }

/-- The word of the command in progress (10_state.md R40). -/
def currentWord (s : State) : CommandWord := commandWord s.curOp s.curArg

/-- The bus response that a segment waits for before it runs: PW and RW a write's, C1 and S1 of GYRO.SAMPLE a read's
(42_heading.md R152, R154, R155). -/
def Seg.awaits : Seg → Option BusKind
  | .initPW => some .write
  | .initRW => some .write
  | .calC1 => some .read
  | .sampleS1 => some .read
  | .s0 => none
  | .readS1 => none
  | .calC2 => none
  | .g1 => none
  | .g2 => none
  | .g3 => none
  | .g4 => none
  | .g5 => none
  | .g6 => none
  | .ge => none

/-- The segment that runs in phase 6 of this cycle, if one does: one that waits on the bus runs exactly when this
cycle accepted a response, any other when SEQ_WAIT = 0 (10_state.md R45). -/
def dueSegment (s : State) : Option Seg :=
  match s.seqStep with
  | .idle => none
  | .seg label =>
    if label.awaits.isSome then (if s.busRsp.isSome then some label else none)
    else if s.seqWait = 0#32 then some label else none

/-- Phase 6 of a cycle in which no segment runs: a counted wait counts down, everything else holds
(10_state.md R45). -/
def idleSequencer (s : State) : State :=
  match s.seqStep with
  | .idle => s
  | .seg label => if label.awaits.isSome then s else if s.seqWait = 0#32 then s else { s with seqWait := s.seqWait - 1#32 }

/-- Inputs with nothing on any line but the echo level given: no reset, no response, no host access. -/
def quietInputs (echo : Bool) : Inputs where
  reset := false
  echoIn := echo
  grspValid := false
  grspStatus := 0#8
  grspData := ⟨0#8, 0#8, 0#8, 0#8, 0#8, 0#8⟩
  host := .none

end Sys2Proof.Machine
end

