-- ==== Sys2Proof/Machine/Command.lean ====
section
/-!
DEFINITION. The two commands that belong to no unit (40_command.md R106, R107).
-/

namespace Sys2Proof.Machine

/-- NOP (40_command.md R106). -/
def execNop (s : State) : Host.Outcome State Fault Refusal :=
  match s.seqStep with
  | .seg .s0 => .next (finish .ok s)
  | _ => .fault .noSuchSegment

/-- ILLEGAL, the command of every illegal word (40_command.md R107). It is no row of the opcode table, so no arm of
`exec`: the sequencer runs it where the decoder rejects the word. -/
def execIllegal (s : State) : Host.Outcome State Fault Refusal :=
  match s.seqStep with
  | .seg .s0 => .next (finish .illegal s)
  | _ => .fault .noSuchSegment

end Sys2Proof.Machine
end

