-- ==== Sys2Proof/Machine/Echo.lean ====
section
/-!
DEFINITION. The echo converter's commands (41_echo.md R126, R128, R129). Its autonomous parts are in Ops.lean.
-/

namespace Sys2Proof.Machine

/-- ECHO.TRIGGER (41_echo.md R126). -/
def execEchoTrigger (s : State) : Host.Outcome State Fault Refusal :=
  match s.seqStep with
  | .seg .s0 => .next (finish .ok { s with trigCnt := BitVec.ofNat 8 trigCycles })
  | _ => .fault .noSuchSegment

/-- ECHO.READ (41_echo.md R128): S0 is M0 of `echo_measure`, S1 is M1 and the result. -/
def execEchoRead (s : State) : Host.Outcome State Fault Refusal :=
  match s.seqStep with
  | .seg .s0 => .next (measureStart .readS1 s)
  | .seg .readS1 =>
    .next (finish (if s.echoNew then .ok else .stale) { measureEnd s with result := measured s })
  | _ => .fault .noSuchSegment

/-- ECHO.CONVERT (41_echo.md R129). -/
def execEchoConvert (tc : Byte) (ovf : Half) (s : State) : Host.Outcome State Fault Refusal :=
  match s.seqStep with
  | .seg .s0 => .next (finish .ok { s with result := distanceOf (halve (rawTicks tc ovf)) })
  | _ => .fault .noSuchSegment

end Sys2Proof.Machine
end

