-- ==== Sys2Proof/Machine/Gap.lean ====
section
/-!
DEFINITION. The gap selector's commands (44_gap.md R201, R208). The segments of GAP.FIND are written over shared
operations: steering to a pulse and waiting, noting a stale measurement, and re-centring.
-/

namespace Sys2Proof.Machine

/-- Steer to a pulse and wait the settle time, then the segment `next` (44_gap.md R201). -/
def steerThen (p : Half) (next : Seg) (s : State) : State :=
  waitThen settleCycles next (servoWrite p s)

/-- M1 in GAP.FIND: DIST takes d, and a stale measurement sets STALE_ANY (44_gap.md R201). -/
def gapMeasure (s : State) : State :=
  { measureEnd s with gapStaleAny := s.gapStaleAny || !s.echoNew }

/-- The clearance test of a measurement (44_gap.md R202). -/
def isClear (d : Word) : Bool := decide (clearThresh < d)

/-- GC of GAP.FIND: re-centre and settle (44_gap.md R204). -/
def gapCenter (s : State) : State := steerThen s.cfg.pulseCenter .ge s

/-- The selection of an early exit (44_gap.md R201, G2 and G4). -/
def gapSelect (p : Half) (d : Word) (path : GapPath) (s : State) : State :=
  { s with gapSel := p, gapMaxd := d, gapPath := path }

/-- The record of one sweep point: strictly greater than the maximum so far (44_gap.md R203). -/
def gapRecord (p : Half) (k : BitVec 3) (d : Word) (s : State) : State :=
  if s.gapMaxd < d then { s with gapMaxd := d, gapSel := p, gapIdx := k } else s

/-- G0 of GAP.FIND (44_gap.md R201). -/
def gapStart (s : State) : State :=
  steerThen s.cfg.pulseRight .g1
    { s with
      gapSel := 0#16, gapMaxd := 0#32, gapPath := .notRun, gapIdx := noIdx, gapStaleAny := false, seqK := 0#3 }

/-- G2 of GAP.FIND: the right measurement (44_gap.md R201). -/
def gapRight (s : State) : State :=
  if isClear (measured s) then gapCenter (gapSelect s.cfg.pulseRight (measured s) .right (gapMeasure s))
  else steerThen s.cfg.pulseLeft .g3 (gapMeasure s)

/-- G4 of GAP.FIND: the left measurement, or the start of the sweep (44_gap.md R201). -/
def gapLeft (s : State) : Host.Outcome State Fault Refusal :=
  if isClear (measured s) then
    .next (gapCenter (gapSelect s.cfg.pulseLeft (measured s) .left (gapMeasure s)))
  else
    match romSweep s.cfg 0#3 with
    | some p => .next (steerThen p.pulse .g5 { gapMeasure s with gapPath := .sweep, seqK := 0#3 })
    | none => .fault .romAddress

/-- G6 of GAP.FIND: one sweep measurement (44_gap.md R201, R203). -/
def gapSweep (s : State) : Host.Outcome State Fault Refusal :=
  match romSweep s.cfg s.seqK with
  | none => .fault .romAddress
  | some p =>
    let t := gapRecord p.pulse s.seqK (measured s) (gapMeasure s)
    if s.seqK < lastSweep then
      match romSweep s.cfg (s.seqK + 1#3) with
      | some q => .next (steerThen q.pulse .g5 { t with seqK := s.seqK + 1#3 })
      | none => .fault .romAddress
    else .next (gapCenter t)

/-- GE of GAP.FIND: the result and the code (44_gap.md R201, R206). -/
def gapEnd (s : State) : State :=
  finish (if s.gapPath = .sweep ∧ s.gapIdx = noIdx then .noGap else .ok)
    { s with result := s.gapSel.setWidth 32 }

/-- GAP.FIND (44_gap.md R201). -/
def execGapFind (s : State) : Host.Outcome State Fault Refusal :=
  match s.seqStep with
  | .seg .s0 => .next (gapStart s)
  | .seg .g1 => .next (measureStart .g2 s)
  | .seg .g2 => .next (gapRight s)
  | .seg .g3 => .next (measureStart .g4 s)
  | .seg .g4 => gapLeft s
  | .seg .g5 => .next (measureStart .g6 s)
  | .seg .g6 => gapSweep s
  | .seg .ge => .next (gapEnd s)
  | _ => .fault .noSuchSegment

/-- GAP.PULSE_TO_ANGLE (44_gap.md R208). -/
def execGapPulseToAngle (pulse : Word) (s : State) : Host.Outcome State Fault Refusal :=
  match s.seqStep with
  | .seg .s0 =>
    match reverseAngle s.cfg pulse with
    | some a => .next (finish .ok { s with result := BitVec.ofInt 32 a })
    | none => .next (finish .notMappable s)
  | _ => .fault .noSuchSegment

end Sys2Proof.Machine
end

