-- ==== Sys2Proof/Machine/Heading.lean ====
section
/-!
DEFINITION. The heading integrator's commands (42_heading.md R152 to R156). A segment that waits on a bus response
does nothing in a state that holds none (10_state.md R45, phase 6; log entry 15).
-/

namespace Sys2Proof.Machine

/-- NX of GYRO.INIT: the next write of GYRO_PRE_INIT, or the range write (42_heading.md R152). -/
def initNext (r : GyroRange) (s : State) : State :=
  match s.cfg.gyroPreInit[s.seqI.toNat]? with
  | some w => busWrite w.reg w.value .initPW s
  | none => busWrite s.cfg.gyroRangeReg (rangeVal s.cfg.gyroRangeVal r) .initRW s

/-- A failed register write of GYRO.INIT (42_heading.md R152). -/
def initFail (s : State) : State :=
  finish .gyroBusErr { s with initOk := false, cfgFatal := true }

/-- GYRO.INIT (42_heading.md R152). -/
def execGyroInit (range : Word) (s : State) : Host.Outcome State Fault Refusal :=
  match s.seqStep, rangeOf range with
  | .seg .s0, none => .next (finish .invalidRange { s with cfgFatal := true })
  | .seg .s0, some r => .next (initNext r { s with seqI := 0#16 })
  | .seg .initPW, some r =>
    match s.busRsp with
    | none => .next s
    | some rsp => .next (if rsp.status ≠ 0#8 then initFail s else initNext r { s with seqI := s.seqI + 1#16 })
  | .seg .initRW, some r =>
    match s.busRsp with
    | none => .next s
    | some rsp =>
      .next (if rsp.status ≠ 0#8 then initFail s
        else finish .ok { s with gyroSens := sens r, gyroRange := range, initOk := true })
  | _, _ => .fault .noSuchSegment

/-- C1 of GYRO.CALIBRATE (42_heading.md R154). -/
def calSample (b : SixBytes) (s : State) : State :=
  waitThen (calDelayCycles s.cfg) .calC2
    { s with
      calSumX := storeF32 s 0 (addSample s.calSumX s.gyroSens (rawX s.cfg b))
      calSumY := storeF32 s 1 (addSample s.calSumY s.gyroSens (rawY s.cfg b))
      calSumZ := storeF32 s 2 (addSample s.calSumZ s.gyroSens (rawZ s.cfg b))
      seqI := s.seqI + 1#16 }

/-- The end of C2 of GYRO.CALIBRATE: the means and CAL_DONE (42_heading.md R154). -/
def calFinish (s : State) : State :=
  finish .ok
    { s with
      gyroOffX := storeF32 s 0 (meanOf s.calSumX s.cfg.calN)
      gyroOffY := storeF32 s 1 (meanOf s.calSumY s.cfg.calN)
      gyroOffZ := storeF32 s 2 (meanOf s.calSumZ s.cfg.calN)
      calDone := true }

/-- GYRO.CALIBRATE (42_heading.md R154). -/
def execGyroCalibrate (s : State) : Host.Outcome State Fault Refusal :=
  match s.seqStep with
  | .seg .s0 =>
    .next (if s.initOk = false then finish .notInit s
      else if s.calDone = true then finish .alreadyCal s
      else busRead .calC1 { s with seqI := 0#16, calSumX := 0#32, calSumY := 0#32, calSumZ := 0#32 })
  | .seg .calC1 =>
    match s.busRsp with
    | none => .next s
    | some rsp => .next (calSample rsp.data s)
  | .seg .calC2 => .next (if s.seqI.toNat < s.cfg.calN then busRead .calC1 s else calFinish s)
  | _ => .fault .noSuchSegment

/-- S1 of GYRO.SAMPLE: the three accumulators in one cycle (42_heading.md R155). -/
def sampleIntegrate (dt : Word) (b : SixBytes) (s : State) : State :=
  finish .ok
    { s with
      headRoll := storeF32 s 0 (integrate s.headRoll s.gyroOffX s.gyroSens dt (rawX s.cfg b))
      headPitch := storeF32 s 1 (integrate s.headPitch s.gyroOffY s.gyroSens dt (rawY s.cfg b))
      headYaw := storeF32 s 2 (integrate s.headYaw s.gyroOffZ s.gyroSens dt (rawZ s.cfg b)) }

/-- GYRO.SAMPLE (42_heading.md R155). -/
def execGyroSample (dt : Word) (s : State) : Host.Outcome State Fault Refusal :=
  match s.seqStep with
  | .seg .s0 => .next (if s.initOk = false then finish .notInit s else busRead .sampleS1 s)
  | .seg .sampleS1 =>
    match s.busRsp with
    | none => .next s
    | some rsp => .next (sampleIntegrate dt rsp.data s)
  | _ => .fault .noSuchSegment

/-- GYRO.RESET (42_heading.md R156). -/
def execGyroReset (s : State) : Host.Outcome State Fault Refusal :=
  match s.seqStep with
  | .seg .s0 => .next (finish .ok { s with headRoll := 0#32, headPitch := 0#32, headYaw := 0#32 })
  | _ => .fault .noSuchSegment

end Sys2Proof.Machine
end

