-- ==== Sys2Proof/Machine/Servo.lean ====
section
/-!
DEFINITION. The steering mapper's commands (43_servo.md R181 to R183).
-/

namespace Sys2Proof.Machine

/-- SERVO.SET_HEADING (43_servo.md R181). The fault stands for a ROM address outside the table, which no in-range
heading gives (Laws/Servo.lean). -/
def execServoSetHeading (yaw : Word) (s : State) : Host.Outcome State Fault Refusal :=
  match s.seqStep with
  | .seg .s0 =>
    if headingInRange (F32.ofBits yaw) then
      match headingPulse s.cfg (F32.ofBits yaw) with
      | some p => .next (finish .ok { servoWrite p s with result := p.setWidth 32 })
      | none => .fault .romAddress
    else .next (finish .headingRange s)
  | _ => .fault .noSuchSegment

/-- SERVO.SET_PULSE: the whole 32-bit operand is compared (43_servo.md R182). -/
def execServoSetPulse (pulse : Word) (s : State) : Host.Outcome State Fault Refusal :=
  match s.seqStep with
  | .seg .s0 =>
    .next (if s.cfg.pulseMin.setWidth 32 ≤ pulse ∧ pulse ≤ s.cfg.pulseMax.setWidth 32
      then finish .ok (servoWrite (pulse.setWidth 16) s)
      else finish .pulseRange s)
  | _ => .fault .noSuchSegment

/-- SERVO.ANGLE_TO_PULSE: a mapping, not an actuation (43_servo.md R183). -/
def execServoAngleToPulse (angle : Word) (s : State) : Host.Outcome State Fault Refusal :=
  match s.seqStep with
  | .seg .s0 =>
    match anglePulse s.cfg angle.toInt with
    | some p => .next (finish .ok { s with result := BitVec.ofInt 32 p })
    | none => .next (finish .angleDomain s)
  | _ => .fault .noSuchSegment

end Sys2Proof.Machine
end

