-- ==== Sys2Proof/Machine/Dispatch.lean ====
section
/-!
DEFINITION. One arm per command: the segment of the command that SEQ_STEP names (00_scope.md R12; log entry 15).
-/

namespace Sys2Proof.Machine

def exec (i : Instr) (s : State) : Host.Outcome State Fault Refusal :=
  match i with
  | .nop => Sys2Proof.Machine.execNop s
  | .echoTrigger => Sys2Proof.Machine.execEchoTrigger s
  | .echoRead => Sys2Proof.Machine.execEchoRead s
  | .echoConvert tc ovf => Sys2Proof.Machine.execEchoConvert tc ovf s
  | .gyroInit range => Sys2Proof.Machine.execGyroInit range s
  | .gyroCalibrate => Sys2Proof.Machine.execGyroCalibrate s
  | .gyroSample dt => Sys2Proof.Machine.execGyroSample dt s
  | .gyroReset => Sys2Proof.Machine.execGyroReset s
  | .servoSetHeading yaw => Sys2Proof.Machine.execServoSetHeading yaw s
  | .servoSetPulse pulse => Sys2Proof.Machine.execServoSetPulse pulse s
  | .servoAngleToPulse angle => Sys2Proof.Machine.execServoAngleToPulse angle s
  | .gapFind => Sys2Proof.Machine.execGapFind s
  | .gapPulseToAngle pulse => Sys2Proof.Machine.execGapPulseToAngle pulse s

end Sys2Proof.Machine
end

