-- ==== Sys2Proof/Machine/HostPort.lean ====
section
/-!
DEFINITION. The host register port: the register map, the read of a register, the write of one, and the host phase
(20_memory.md R60 to R66; 40_command.md R100, R101).
-/

namespace Sys2Proof.Machine

/-- The registers of the map (20_memory.md R63). -/
inductive HostReg where
  | cmdArg
  | cmdOp
  | status
  | result
  | echoDist
  | echoDuration
  | echoState
  | gyroSens
  | gyroRange
  | gyroOffX
  | gyroOffY
  | gyroOffZ
  | headRoll
  | headPitch
  | headYaw
  | servoPulse
  | pwmWrites
  | gapSel
  | gapMaxd
  | gapInfo
deriving DecidableEq, Repr

/-- The register at an address: none at an unmapped or misaligned one (20_memory.md R61, R63). -/
def hostReg (addr : Byte) : Option HostReg :=
  match addr with
  | 0x00#8 => some .cmdArg
  | 0x04#8 => some .cmdOp
  | 0x08#8 => some .status
  | 0x0C#8 => some .result
  | 0x10#8 => some .echoDist
  | 0x14#8 => some .echoDuration
  | 0x18#8 => some .echoState
  | 0x1C#8 => some .gyroSens
  | 0x20#8 => some .gyroRange
  | 0x24#8 => some .gyroOffX
  | 0x28#8 => some .gyroOffY
  | 0x2C#8 => some .gyroOffZ
  | 0x30#8 => some .headRoll
  | 0x34#8 => some .headPitch
  | 0x38#8 => some .headYaw
  | 0x3C#8 => some .servoPulse
  | 0x40#8 => some .pwmWrites
  | 0x44#8 => some .gapSel
  | 0x48#8 => some .gapMaxd
  | 0x4C#8 => some .gapInfo
  | _ => none

/-- The content of a register (20_memory.md R62, R63). -/
def regValue (s : State) : HostReg → Word
  | .cmdArg => s.cmdArg
  | .cmdOp => s.cmdOp
  | .status => s.statusWord
  | .result => s.result
  | .echoDist => s.dist
  | .echoDuration => s.duration
  | .echoState => s.echoStateWord
  | .gyroSens => s.gyroSens
  | .gyroRange => s.gyroRange
  | .gyroOffX => s.gyroOffX
  | .gyroOffY => s.gyroOffY
  | .gyroOffZ => s.gyroOffZ
  | .headRoll => s.headRoll
  | .headPitch => s.headPitch
  | .headYaw => s.headYaw
  | .servoPulse => s.servoPulse.setWidth 32
  | .pwmWrites => s.pwmWrites
  | .gapSel => s.gapSel.setWidth 32
  | .gapMaxd => s.gapMaxd
  | .gapInfo => s.gapInfoWord

/-- HostRead(addr): 0 at an unmapped or misaligned address (20_memory.md R61, R64). -/
def hostRead (s : State) (addr : Byte) : Word :=
  match hostReg addr with
  | some r => regValue s r
  | none => 0#32

/-- A write to CMD_OP: acceptance while BUSY = 0, overrun while BUSY = 1 (40_command.md R100, R101). -/
def writeCmdOp (v : Word) (s : State) : State :=
  if s.busy then { s with cmdOp := v, ovr := true }
  else latchCommand v s.cmdArg { s with cmdOp := v }

/-- HostWrite(addr, v): only CMD_ARG and CMD_OP are writable (20_memory.md R65). -/
def hostWrite (addr : Byte) (v : Word) (s : State) : State :=
  if addr = 0x00#8 then { s with cmdArg := v }
  else if addr = 0x04#8 then writeCmdOp v s
  else s

/-- The host phase (10_state.md R45; 20_memory.md R60). -/
def hostPhase (a : HostAccess) (s : State) : State :=
  match a with
  | .none => s
  | .read addr => { s with hostRData := some (hostRead s addr) }
  | .write addr v => hostWrite addr v s

end Sys2Proof.Machine
end

