-- ==== Sys2Proof/Machine/Sequencer.lean ====
section
/-!
DEFINITION. The sequencer phase and the cycle it stands in (10_state.md R45).
-/

namespace Sys2Proof.Machine

/-- The segment of the latched command word: its command's, or ILLEGAL's (30_encoding.md R84, R85). -/
def runSegment (s : State) : Host.Outcome State Fault Refusal :=
  match decode (currentWord s) with
  | .ok i => exec i s
  | .error _ => execIllegal s

/-- Phase 6 (10_state.md R45). -/
def sequencerPhase (s : State) : Host.Outcome State Fault Refusal :=
  match dueSegment s with
  | some _ => runSegment s
  | none => .next (idleSequencer s)

/-- Phase 7 after phase 6, where phase 6 answers a state. -/
def thenHost (a : HostAccess) : Host.Outcome State Fault Refusal → Host.Outcome State Fault Refusal
  | .next s => .next (hostPhase a s)
  | .fault r => .fault r
  | .refused r => .refused r

/-- One clock cycle under the inputs given: reset alone, or phases 2 to 7 in order (10_state.md R45). -/
def cycleWith (inp : Inputs) (s : State) : Host.Outcome State Fault Refusal :=
  if inp.reset then .next (resetCycle (beginCycle s))
  else thenHost inp.host (sequencerPhase (autonomous inp (beginCycle s)))

end Sys2Proof.Machine
end

