-- ==== Sys2Proof/Machine/Step.lean ====
section
/-!
DEFINITION. The step: one clock cycle (10_state.md R45), with the cycle's inputs taken from State; and the placing of
a command word where the next step runs it.
-/

namespace Sys2Proof.Machine

/-- One clock cycle (10_state.md R45). A malformed configuration is refused (00_scope.md R8). -/
def step (s : State) : Host.Outcome State Fault Refusal :=
  if s.cfg.wf then cycleWith (nextInputs s) s else .refused .badConfiguration

/-- The state in which the next step runs the first segment of the command word `w`: the word latched as its
acceptance latches it (40_command.md R100), and a next cycle with no reset, no edge, no response and no host access
(log entry 7). -/
def State.withFetchWord (s : State) (nbits w : Nat) : State :=
  let word : CommandWord := BitVec.ofNat 64 (w % 2 ^ nbits)
  latchCommand (word.extractLsb' 32 32) (argOf word)
    { s with script := quietInputs s.echoSync :: s.script }

end Sys2Proof.Machine
end

