-- ==== Sys2Proof/Machine/Assembler.lean ====
section
/-!
DEFINITION. The assembler of 30_encoding.md R88: a line of text to a command, in two parts. The operand of each form is
first read from its text (log entry 13), then checked against the form and encoded.
-/

namespace Sys2Proof

/-- A decimal floating literal as the nearest binary32 pattern, ties to even (30_encoding.md R88). -/
def decimalPattern (neg : Bool) (digits places : Nat) : Word :=
  (F32.round neg (digits * F32.one) (10 ^ places)).toBits 0#32

/-- The `none` form takes no operand (30_encoding.md R88). -/
def asmNone : AsmOperand → Option Unit
  | .none => some ()
  | .int _ => none
  | .echo _ _ => none
  | .f32 _ => none
  | .decimal _ _ _ => none

/-- The `u32` form (30_encoding.md R88). -/
def asmU32 : AsmOperand → Option Word
  | .int v => if fitsU32 v then some (BitVec.ofInt 32 v) else none
  | .none => none
  | .echo _ _ => none
  | .f32 _ => none
  | .decimal _ _ _ => none

/-- The `s32` form, encoded in two's complement (30_encoding.md R88). -/
def asmS32 : AsmOperand → Option Word
  | .int v => if fitsS32 v then some (BitVec.ofInt 32 v) else none
  | .none => none
  | .echo _ _ => none
  | .f32 _ => none
  | .decimal _ _ _ => none

/-- The `f32` form (30_encoding.md R88). -/
def asmF32 : AsmOperand → Option Word
  | .f32 p => some p
  | .decimal neg digits places => some (decimalPattern neg digits places)
  | .none => none
  | .int _ => none
  | .echo _ _ => none

/-- The `echo` form (30_encoding.md R88). -/
def asmEcho : AsmOperand → Option (Byte × Half)
  | .echo tc ovf => if fitsEcho tc ovf then some (BitVec.ofInt 8 tc, BitVec.ofInt 16 ovf) else none
  | .none => none
  | .int _ => none
  | .f32 _ => none
  | .decimal _ _ _ => none

/-- Assembling: the mnemonic's opcode and its operand, refused where the operand does not fit the form or no
mnemonic has the opcode (30_encoding.md R88). -/
def assemble (opc : Byte) (a : AsmOperand) : Option Instr :=
  match opc with
  | 0x00#8 => (asmNone a).map fun _ => .nop
  | 0x01#8 => (asmNone a).map fun _ => .echoTrigger
  | 0x02#8 => (asmNone a).map fun _ => .echoRead
  | 0x03#8 => (asmEcho a).map fun p => .echoConvert p.1 p.2
  | 0x10#8 => (asmU32 a).map .gyroInit
  | 0x11#8 => (asmNone a).map fun _ => .gyroCalibrate
  | 0x12#8 => (asmF32 a).map .gyroSample
  | 0x13#8 => (asmNone a).map fun _ => .gyroReset
  | 0x20#8 => (asmF32 a).map .servoSetHeading
  | 0x21#8 => (asmU32 a).map .servoSetPulse
  | 0x22#8 => (asmS32 a).map .servoAngleToPulse
  | 0x30#8 => (asmNone a).map fun _ => .gapFind
  | 0x31#8 => (asmU32 a).map .gapPulseToAngle
  | _ => none

/-- A digit's value in the base, capital or small. -/
def digitValue (base : Nat) (c : Char) : Option Nat :=
  let n := c.toNat
  let v := if 48 ≤ n ∧ n ≤ 57 then n - 48 else if 97 ≤ n ∧ n ≤ 102 then n - 87
    else if 65 ≤ n ∧ n ≤ 70 then n - 55 else base
  if v < base then some v else none

/-- The number that a run of digits continues from `acc`; `none` at a character that is no digit. -/
def readDigits (base acc : Nat) : List Char → Option Nat
  | [] => some acc
  | c :: cs => (digitValue base c).bind fun d => readDigits base (acc * base + d) cs

/-- A run of at least one digit. -/
def readDigits1 (base : Nat) : List Char → Option Nat
  | [] => none
  | c :: cs => readDigits base 0 (c :: cs)

/-- A decimal or `0x` hex integer literal (30_encoding.md R88). -/
def readNat : List Char → Option Nat
  | '0' :: 'x' :: cs => readDigits1 16 cs
  | cs => readDigits1 10 cs

/-- An integer literal that may carry a leading `-` (30_encoding.md R88). -/
def readInt : List Char → Option Int
  | '-' :: cs => (readNat cs).map fun n => -(n : Int)
  | cs => (readNat cs).map fun n => (n : Int)

/-- The text before the first `c`, and the text after it where there is one. -/
def splitAtChar (c : Char) : List Char → List Char × Option (List Char)
  | [] => ([], none)
  | d :: ds => if d = c then ([], some ds) else let r := splitAtChar c ds; (d :: r.1, r.2)

/-- A decimal floating literal without its sign: digits, and after a point at least one more (log entry 13). -/
def readDecimal (neg : Bool) (cs : List Char) : Option AsmOperand :=
  match splitAtChar '.' cs with
  | (whole, none) => (readDigits1 10 whole).map fun n => .decimal neg n 0
  | (whole, some places) =>
    (readDigits1 10 whole).bind fun n =>
      (readDigits1 10 places).bind fun _ =>
        (readDigits 10 n places).map fun m => .decimal neg m places.length

/-- An `f32` operand: a decimal floating literal or a raw pattern `f32:0x…` of at most 32 bits (30_encoding.md R88). -/
def readF32 : List Char → Option AsmOperand
  | 'f' :: '3' :: '2' :: ':' :: '0' :: 'x' :: cs =>
    (readDigits1 16 cs).bind fun n => if n < 2 ^ 32 then some (.f32 (BitVec.ofNat 32 n)) else none
  | '-' :: cs => readDecimal true cs
  | cs => readDecimal false cs

/-- An `echo` operand, the two integers `tc, ovf` (30_encoding.md R88). -/
def readEcho (cs : List Char) : Option AsmOperand :=
  match splitAtChar ',' cs with
  | (_, none) => none
  | (tc, some ovf) =>
    (readNat tc).bind fun a => (readNat (ovf.dropWhile (· = ' '))).map fun b => .echo (a : Int) (b : Int)

/-- The mnemonics of 30_encoding.md R83 with their opcodes. -/
def mnemonics : List (String × Byte) :=
  [("NOP", 0x00#8), ("ECHO.TRIGGER", 0x01#8), ("ECHO.READ", 0x02#8), ("ECHO.CONVERT", 0x03#8),
    ("GYRO.INIT", 0x10#8), ("GYRO.CALIBRATE", 0x11#8), ("GYRO.SAMPLE", 0x12#8), ("GYRO.RESET", 0x13#8),
    ("SERVO.SET_HEADING", 0x20#8), ("SERVO.SET_PULSE", 0x21#8), ("SERVO.ANGLE_TO_PULSE", 0x22#8),
    ("GAP.FIND", 0x30#8), ("GAP.PULSE_TO_ANGLE", 0x31#8)]

/-- The opcode of a mnemonic. -/
def opcodeOf (name : List Char) : Option Byte :=
  (mnemonics.find? fun p => decide (p.1.toList = name)).map Prod.snd

/-- The operand's text, read in the form that R82 gives the opcode. -/
def readOperand (opc : Byte) (text : Option (List Char)) : Option AsmOperand :=
  match text with
  | none => some .none
  | some cs =>
    match opc with
    | 0x03#8 => readEcho cs
    | 0x12#8 => readF32 cs
    | 0x20#8 => readF32 cs
    | 0x22#8 => (readInt cs).map .int
    | _ => (readNat cs).map fun n => .int (n : Int)

/-- One line of assembly: the mnemonic, then a space and the operand where the form has one (30_encoding.md R88). -/
def assembleLine (line : String) : Option Instr :=
  let parts := splitAtChar ' ' line.toList
  (opcodeOf parts.1).bind fun opc => (readOperand opc parts.2).bind fun a => assemble opc a

end Sys2Proof
end

