-- ==== Sys2Proof/Machine/Run.lean ====
section
/-!
DEFINITION. The end of a run and the end state (70_reset_and_hazards.md R289).
-/

namespace Sys2Proof.Machine

/-- The host makes no further access, were the machine to run on (70_reset_and_hazards.md R289). -/
def HostDone (s : State) : Prop :=
  ∀ k, (s.inputsAt k).host = .none

/-- The block has nothing left to do of its own: the sequencer idle with BUSY = 0, no bus request outstanding, no trigger
pulse in progress. The echo converter need not be quiet (70_reset_and_hazards.md R289). -/
def Quiescent (s : State) : Prop :=
  s.seqStep = .idle ∧ s.busy = false ∧ s.busPend = none ∧ s.trigCnt = 0#8

/-- A run is over at a cycle boundary: the block has nothing left to do and the host no access left to make
(70_reset_and_hazards.md R289). -/
def RunOver (s : State) : Prop :=
  Quiescent s ∧ HostDone s

/-- The addresses of the register map (20_memory.md R63). -/
def mappedAddresses : List Byte :=
  [0x00#8, 0x04#8, 0x08#8, 0x0C#8, 0x10#8, 0x14#8, 0x18#8, 0x1C#8, 0x20#8, 0x24#8, 0x28#8, 0x2C#8, 0x30#8, 0x34#8,
    0x38#8, 0x3C#8, 0x40#8, 0x44#8, 0x48#8, 0x4C#8]

/-- The end state of a run: what each mapped address reads, PWM_WRITES and the last PWM_VAL
(70_reset_and_hazards.md R289). -/
structure EndState where
  registers : List (Byte × Word)
  pwmWrites : Word
  pwmVal    : Half
deriving DecidableEq, Repr

/-- The end state at a cycle boundary. -/
def State.endState (s : State) : EndState where
  registers := mappedAddresses.map fun a => (a, hostRead s a)
  pwmWrites := s.pwmWrites
  pwmVal := s.pwmVal

/-- The part of an end state that a claim may read with ECHO_IN free: all but ECHO_DURATION and ECHO_STATE
(70_reset_and_hazards.md R289). -/
def EndState.settled (e : EndState) : EndState :=
  { e with registers := e.registers.filter fun p => p.1 ≠ 0x14#8 && p.1 ≠ 0x18#8 }

end Sys2Proof.Machine
end

