-- ==== Sys2Proof/Safety.lean ====
section
/-!
DEFINITION. What counts as a safe run, in the terms statements use: the segments of each command, and the invariants
of the block that its rules state or imply (41_echo.md R131, 42_heading.md R157, 43_servo.md R185,
44_gap.md R207, 60_exceptions.md R245 and R250).
-/

namespace Sys2Proof.Machine

/-- The labels a command has, beside NX and GC (00_scope.md R12). GYRO.INIT gets past S0 only with one of the four
ranges (42_heading.md R152). -/
def hasSegment : Instr → Seg → Bool
  | .nop, l => l == .s0
  | .echoTrigger, l => l == .s0
  | .echoRead, l => l == .s0 || l == .readS1
  | .echoConvert _ _, l => l == .s0
  | .gyroInit r, l => l == .s0 || ((l == .initPW || l == .initRW) && (rangeOf r).isSome)
  | .gyroCalibrate, l => l == .s0 || l == .calC1 || l == .calC2
  | .gyroSample _, l => l == .s0 || l == .sampleS1
  | .gyroReset, l => l == .s0
  | .servoSetHeading _, l => l == .s0
  | .servoSetPulse _, l => l == .s0
  | .servoAngleToPulse _, l => l == .s0
  | .gapFind, l =>
    l == .s0 || l == .g1 || l == .g2 || l == .g3 || l == .g4 || l == .g5 || l == .g6 || l == .ge
  | .gapPulseToAngle _, l => l == .s0

/-- The segments that load the trigger count: ECHO.TRIGGER's only one and every M0 (41_echo.md R122, R126, R127). -/
def loadsTrigger : Instr → Seg → Bool
  | .echoTrigger, l => l == .s0
  | .echoRead, l => l == .s0
  | .gapFind, l => l == .g1 || l == .g3 || l == .g5
  | .nop, _ => false
  | .echoConvert _ _, _ => false
  | .gyroInit _, _ => false
  | .gyroCalibrate, _ => false
  | .gyroSample _, _ => false
  | .gyroReset, _ => false
  | .servoSetHeading _, _ => false
  | .servoSetPulse _, _ => false
  | .servoAngleToPulse _, _ => false
  | .gapPulseToAngle _, _ => false

/-- The label is one of the command that the word selects; ILLEGAL has S0 alone (40_command.md R107). -/
def labelFits (w : CommandWord) (l : Seg) : Bool :=
  match decode w with
  | .ok i => hasSegment i l
  | .error _ => l == .s0

/-- PHASE, ECHO_SYNC and TRUN go together (41_echo.md R131; 60_exceptions.md R245 (c)). -/
def EdgesPaired (s : State) : Prop :=
  s.phase = s.echoSync ∧ s.trun = s.phase

/-- BUSY, SEQ_STEP and BUS_PEND agree: an idle sequencer is not busy and waits for nothing, a busy one stands at a
label of its command and has a request outstanding exactly when that segment waits for a response
(10_state.md R41, R44, R45). -/
def SequencerFits (s : State) : Prop :=
  match s.seqStep with
  | .idle => s.busy = false ∧ s.busPend = none
  | .seg l => s.busy = true ∧ labelFits (currentWord s) l = true ∧ s.busPend = l.awaits

/-- GYRO_SENS matches the last successful GYRO.INIT, and INIT_OK implies that there has been one
(42_heading.md R157 (c), (d)). -/
def SensitivityFits (s : State) : Prop :=
  (s.gyroRange = 0#32 ∧ s.gyroSens = 0x43030000#32 ∧ s.initOk = false) ∨
    ∃ r, rangeOf s.gyroRange = some r ∧ s.gyroSens = sens r

/-- SERVO_PULSE is 0 or in the physical range, and in range whenever it is written (43_servo.md R185). -/
def PulseFits (s : State) : Prop :=
  (s.servoPulse = 0#16 ∨ s.cfg.inRange s.servoPulse = true) ∧
    (s.pwmWr = true → s.cfg.inRange s.servoPulse = true)

/-- The sweep index stays in 0..6 and the trigger count in 0..20; a configuration error's code has set CFG_FATAL
(10_state.md R39, R30; 60_exceptions.md R250). -/
def CountersFit (s : State) : Prop :=
  s.seqK ≤ lastSweep ∧ s.trigCnt ≤ 20#8 ∧
    (s.code = .invalidRange ∨ s.code = .gyroBusErr → s.cfgFatal = true)

/-- A heading command past S0 has an initialised gyroscope, and a calibration in progress is the first since reset
(42_heading.md R154, R155, R157 (b)). -/
def HeadingFits (s : State) : Prop :=
  match s.seqStep with
  | .seg .calC1 => s.initOk = true ∧ s.calDone = false
  | .seg .calC2 => s.initOk = true ∧ s.calDone = false
  | .seg .sampleS1 => s.initOk = true
  | _ => True

/-- The invariant of the block. -/
def BlockInv (s : State) : Prop :=
  EdgesPaired s ∧ SequencerFits s ∧ SensitivityFits s ∧ PulseFits s ∧ CountersFit s ∧ HeadingFits s

/-- The rows of the table of 44_gap.md R207, and the registers before any search (10_state.md R50). -/
def GapRow (s : State) : Prop :=
  match s.gapPath with
  | .notRun => s.gapSel = 0#16 ∧ s.gapMaxd = 0#32 ∧ s.gapIdx = noIdx
  | .right => s.gapSel = s.cfg.pulseRight ∧ clearThresh < s.gapMaxd ∧ s.gapIdx = noIdx
  | .left => s.gapSel = s.cfg.pulseLeft ∧ clearThresh < s.gapMaxd ∧ s.gapIdx = noIdx
  | .sweep =>
    (s.gapSel = 0#16 ∧ s.gapMaxd = 0#32 ∧ s.gapIdx = noIdx) ∨
      ∃ p, romSweep s.cfg s.gapIdx = some p ∧ s.gapSel = p.pulse ∧ 1#32 ≤ s.gapMaxd

/-- Where GAP.FIND stands fixes which rows are possible (44_gap.md R201). -/
def GapStage (s : State) : Prop :=
  match s.seqStep with
  | .seg .g1 => s.gapPath = .notRun
  | .seg .g2 => s.gapPath = .notRun
  | .seg .g3 => s.gapPath = .notRun
  | .seg .g4 => s.gapPath = .notRun
  | .seg .g5 => s.gapPath = .sweep
  | .seg .g6 => s.gapPath = .sweep
  | .seg .ge => s.gapPath ≠ .notRun
  | _ => True

/-- The gap selector's invariant: its registers are a row of 44_gap.md R207, as far as the search has come. -/
def GapInv (s : State) : Prop :=
  GapRow s ∧ GapStage s ∧ s.seqK ≤ lastSweep

end Sys2Proof.Machine
end

