-- ==== Sys2Proof/Certificates/Slice0/Obligations.lean ====
section
/-!
DEFINITION. The statements for the provers. Each docstring names the rules it formalises. `cfg.wf` is the premise of
00_scope.md R8, under which alone the machine runs. Statements about states that no run reaches carry `BlockInv`.
-/

namespace Sys2Proof.Machine

/-- The thirteen opcodes of 30_encoding.md R83. -/
def opcodeMap : List Byte :=
  [0x00#8, 0x01#8, 0x02#8, 0x03#8, 0x10#8, 0x11#8, 0x12#8, 0x13#8, 0x20#8, 0x21#8, 0x22#8, 0x30#8, 0x31#8]

/-- A line of assembly has the CMD_OP and CMD_ARG given, and they decode to its command. -/
def assemblesTo (line : String) (op arg : Word) : Prop :=
  ∃ i, assembleLine line = some i ∧ i.cmdOp = op ∧ i.arg = arg ∧ decode (commandWord op arg) = .ok i

/-- The state as phase 6 of the next cycle finds it. -/
def atSequencer (s : State) : State :=
  autonomous (nextInputs s) (beginCycle s)

/-- No reset in the next `n` cycles. -/
def noResetFor (n : Nat) (s : State) : Prop :=
  ∀ k, k < n → (s.inputsAt k).reset = false

/-- The four ranges that GYRO.INIT takes, each with the register value that the configuration gives it
(42_heading.md R152; 00_scope.md R7). -/
def rangeWrites (v : RangeValues) : List (Word × Byte) :=
  [(250#32, v.v250), (500#32, v.v500), (1000#32, v.v1000), (2000#32, v.v2000)]

/-- The state after GYRO.INIT has issued the write numbered `n`: the pre-initialisation writes in order, then the
range write of `val` (42_heading.md R152, 20_memory.md R72). -/
def initRequested (val : Byte) (n : Half) (s : State) : State :=
  match s.cfg.gyroPreInit[n.toNat]? with
  | some w =>
    { s with
      seqI := n, busPend := some .write, seqStep := .seg .initPW
      greq := some ⟨.write, s.cfg.gyroDev.setWidth 7, w.reg, w.value, 0#8⟩ }
  | none =>
    { s with
      seqI := n, busPend := some .write, seqStep := .seg .initRW
      greq := some ⟨.write, s.cfg.gyroDev.setWidth 7, s.cfg.gyroRangeReg, val, 0#8⟩ }

/-- The state after a read of the six rate bytes has been requested (20_memory.md R72). -/
def readRequested (next : Seg) (s : State) : State :=
  { s with
    busPend := some .read, seqStep := .seg next
    greq := some ⟨.read, s.cfg.gyroDev.setWidth 7, s.cfg.gyroDataReg, 0#8, 6#8⟩ }

/-- A PWM write of `p` with its strobe and its count (43_servo.md R180). -/
def pwmWritten (p : Half) (s : State) : State :=
  { s with servoPulse := p, pwmWr := true, pwmWrites := s.pwmWrites + 1#32 }

/-- A wait of `n` cycles before the segment `l` (00_scope.md R12, 10_state.md R45). -/
def waiting (n : Nat) (l : Seg) (s : State) : State :=
  { s with seqStep := .seg l, seqWait := BitVec.ofNat 32 (n - 1) }

/-- Successive sweep measurements of GAP.FIND, one G6 for each corrected duration. -/
def sweepAll : List Word → State → Host.Outcome State Fault Refusal
  | [], s => .next s
  | d :: ds, s =>
    match exec .gapFind { s with seqStep := .seg .g6, duration := d } with
    | .next t => sweepAll ds t
    | .fault r => .fault r
    | .refused r => .refused r

/-- The signed 16-bit value of a pair of bytes of a read, the first byte high when GYRO_BIG_ENDIAN
(42_heading.md R150; 20_memory.md R69). -/
def rateOf (cfg : Config) (first second : Byte) : Int :=
  (if cfg.gyroBigEndian then first ++ second else second ++ first).toInt

/-- ±mag as an integer. -/
def signed (neg : Bool) (mag : Nat) : Int :=
  if neg then -(mag : Int) else mag

/-- A magnitude that binary32 can hold: a 24-bit significand and an exponent in range, in units of 2^-149. -/
def representable (m : Nat) : Prop :=
  ∃ c k, c < 2 ^ 24 ∧ k ≤ 253 ∧ m = c * 2 ^ k

/-- The distance of the exact magnitude `n / d` from `m`, times `d`. -/
def offBy (n d m : Nat) : Nat :=
  ((n : Int) - m * d).natAbs

end Sys2Proof.Machine

open Sys2Proof Sys2Proof.Machine

/-! ### Encoding -/

/-- Decoding and encoding agree, both ways: an encoded command decodes to itself, and a word that decodes to a command
is its encoding but for the ARG bits that the command ignores (30_encoding.md R80, R82, R83, R86). -/
def Obligations.DecodeAndEncodeAgree : Prop :=
  (∀ i : Instr, decode (encode i) = .ok i) ∧
    ∀ (w : CommandWord) (i : Instr), decode w = .ok i → encode i = w &&& commandWord 0xFFFFFFFF#32 i.argMask

/-- R84: the latched word selects the command whose OPC is CUR_OP[31:24] where CUR_OP[23:0] = 0, otherwise ILLEGAL. -/
def Obligations.EveryWordSelectsACommandOrIllegal : Prop :=
  ∀ op arg : Word,
    (op.extractLsb' 0 24 = 0#24 → op.extractLsb' 24 8 ∈ opcodeMap →
      ∃ i, decode (commandWord op arg) = .ok i ∧ i.opc = op.extractLsb' 24 8) ∧
    (op.extractLsb' 0 24 = 0#24 → op.extractLsb' 24 8 ∉ opcodeMap →
      decode (commandWord op arg) = .error .unassignedOpcode) ∧
    (op.extractLsb' 0 24 ≠ 0#24 → decode (commandWord op arg) = .error .reservedBits)

/-- The rows of R90's table (which the spec derives from R80, R82 and R88): each line of assembly has the row's CMD_OP and
CMD_ARG, and they decode to its command. -/
def Obligations.ExampleCommandWords : Prop :=
  assemblesTo "NOP" 0x00000000#32 0x00000000#32 ∧
  assemblesTo "ECHO.TRIGGER" 0x01000000#32 0x00000000#32 ∧
  assemblesTo "ECHO.READ" 0x02000000#32 0x00000000#32 ∧
  assemblesTo "ECHO.CONVERT 116, 0" 0x03000000#32 0x00000074#32 ∧
  assemblesTo "ECHO.CONVERT 116, 1" 0x03000000#32 0x00000174#32 ∧
  assemblesTo "GYRO.INIT 250" 0x10000000#32 0x000000FA#32 ∧
  assemblesTo "GYRO.INIT 2000" 0x10000000#32 0x000007D0#32 ∧
  assemblesTo "GYRO.CALIBRATE" 0x11000000#32 0x00000000#32 ∧
  assemblesTo "GYRO.SAMPLE 0.02" 0x12000000#32 0x3CA3D70A#32 ∧
  assemblesTo "GYRO.RESET" 0x13000000#32 0x00000000#32 ∧
  assemblesTo "SERVO.SET_HEADING 12.5" 0x20000000#32 0x41480000#32 ∧
  assemblesTo "SERVO.SET_PULSE 1500" 0x21000000#32 0x000005DC#32 ∧
  assemblesTo "SERVO.ANGLE_TO_PULSE 135" 0x22000000#32 0x00000087#32 ∧
  assemblesTo "GAP.FIND" 0x30000000#32 0x00000000#32 ∧
  assemblesTo "GAP.PULSE_TO_ANGLE 2000" 0x31000000#32 0x000007D0#32

/-! ### The step -/

/-- A step runs the latched command: in a cycle with no reset in which a segment is due, it is exec of the decoded
command on the state that phases 2 to 5 leave, then the host phase; an illegal word's segment finishes ILLEGAL; where no
segment is due the sequencer only counts its wait down (10_state.md R45; 30_encoding.md R84; 40_command.md R107). -/
def Obligations.StepRunsTheLatchedCommand : Prop :=
  ∀ s : State, s.cfg.wf = true → (nextInputs s).reset = false →
    (∀ (i : Instr) (l : Seg), decode (currentWord s) = .ok i → dueSegment (atSequencer s) = some l →
      step s = thenHost (nextInputs s).host (exec i (atSequencer s))) ∧
    (∀ e, decode (currentWord s) = .error e → dueSegment (atSequencer s) = some .s0 →
      step s = .next (hostPhase (nextInputs s).host (finish .illegal (atSequencer s)))) ∧
    (dueSegment (atSequencer s) = none →
      step s = .next (hostPhase (nextInputs s).host (idleSequencer (atSequencer s))))

/-- A placed command word runs in the very next step (40_command.md R102): exec of the command it decodes to, on the
state with the word latched after phases 2 to 5 of a quiet cycle. -/
def Obligations.PlacedWordRunsInTheNextStep : Prop :=
  ∀ (s : State) (w : CommandWord) (i : Instr), s.cfg.wf = true → decode w = .ok i →
    step (s.withFetchWord 64 w.toNat) = exec i (atSequencer (s.withFetchWord 64 w.toNat)) ∧
    currentWord (atSequencer (s.withFetchWord 64 w.toNat)) = w ∧
    (atSequencer (s.withFetchWord 64 w.toNat)).seqStep = .seg .s0

/-- R8: the nine checks, and the refusal of a configuration that fails one. -/
def Obligations.MalformedConfigurationIsRefused : Prop :=
  (∀ c : Config, c.wf = true ↔
    (c.pulseMin ≤ c.pulseMid ∧ c.pulseMid ≤ c.pulseMax) ∧
    (∀ (i : Nat) (p : Half), c.servoTable[i]? = some p → c.pulseMin ≤ p ∧ p ≤ c.pulseMax) ∧
    (∀ (k : Nat) (p : SweepPoint), c.sweep[k]? = some p →
      c.pulseMin ≤ p.pulse ∧ p.pulse ≤ c.pulseMax ∧ -90 ≤ p.angle ∧ p.angle ≤ 90) ∧
    (c.pulseMin ≤ c.pulseRight ∧ c.pulseRight ≤ c.pulseMax ∧ c.pulseMin ≤ c.pulseLeft ∧ c.pulseLeft ≤ c.pulseMax ∧
      c.pulseMin ≤ c.pulseCenter ∧ c.pulseCenter ≤ c.pulseMax) ∧
    (∀ (j k : Nat) (p q : SweepPoint), c.sweep[j]? = some p → c.sweep[k]? = some q → p.pulse = q.pulse → j = k) ∧
    (c.pulseRight ≠ c.pulseLeft ∧ ∀ (k : Nat) (p : SweepPoint), c.sweep[k]? = some p →
      (p.pulse = c.pulseRight → p.angle = c.angleRight.toInt) ∧
      (p.pulse = c.pulseLeft → p.angle = -c.angleRight.toInt)) ∧
    1 ≤ c.pulseMin.toNat ∧
    (1 ≤ c.calN ∧ c.calN ≤ 65535) ∧
    (c.gyroDev.toNat < 128 ∧ c.gyroPreInit.length ≤ 65535)) ∧
  ∀ s : State, s.cfg.wf = false → step s = .refused .badConfiguration

/-- A cycle with RESET = 1 sets every register to its reset value and runs no other phase; its outputs. The
configuration and the inputs of later cycles are no registers (70_reset_and_hazards.md R270, R271; log entry 2). -/
def Obligations.ResetCycleRestoresEveryRegister : Prop :=
  ∀ s : State, s.cfg.wf = true → (nextInputs s).reset = true →
    ∃ t, step s = .next t ∧
      t = { State.resetWith s.cfg with script := s.script.tail, cycle := s.cycle + 1 } ∧
      t.trigOut = false ∧ t.pwmWr = false ∧ t.pwmVal = 0#16 ∧ t.greq = none ∧ t.hostRData = some 0#32

/-- R50: the reset value of every register, for every configuration. -/
def Obligations.ResetValues : Prop :=
  ∀ cfg : Config, let s := State.resetWith cfg
    s.cfg = cfg ∧
    (s.tcnt = 0#8 ∧ s.ovf = 0#16 ∧ s.trun = false ∧ s.phase = false ∧ s.echoSync = false ∧ s.echoNew = false) ∧
    (s.duration = 0#32 ∧ s.dist = 0#32 ∧ s.trigCnt = 0#8 ∧ s.trigOut = false) ∧
    (s.gyroSens = 0x43030000#32 ∧ s.gyroRange = 0#32 ∧ s.initOk = false ∧ s.calDone = false) ∧
    (s.gyroOffX = 0#32 ∧ s.gyroOffY = 0#32 ∧ s.gyroOffZ = 0#32) ∧
    (s.headRoll = 0#32 ∧ s.headPitch = 0#32 ∧ s.headYaw = 0#32) ∧
    (s.servoPulse = 0#16 ∧ s.pwmVal = 0#16 ∧ s.pwmWr = false ∧ s.pwmWrites = 0#32) ∧
    (s.gapSel = 0#16 ∧ s.gapMaxd = 0#32 ∧ s.gapInfoWord = 0x00000070#32 ∧ s.seqK = 0#3) ∧
    (s.cmdArg = 0#32 ∧ s.cmdOp = 0#32 ∧ s.curOp = 0#32 ∧ s.curArg = 0#32) ∧
    (s.seqI = 0#16 ∧ s.calSumX = 0#32 ∧ s.calSumY = 0#32 ∧ s.calSumZ = 0#32) ∧
    (s.seqStep = .idle ∧ s.seqWait = 0#32 ∧ s.busPending = false ∧ s.greq = none) ∧
    (s.statusWord = 0x00000000#32 ∧ s.busy = false ∧ s.code = .ok ∧ s.lastOpc = 0x00#8) ∧
    s.result = 0#32

/-! ### Invariants -/

/-- The invariant holds at reset, for every configuration. -/
def Obligations.ResetMeetsTheInvariant : Prop :=
  ∀ cfg : Config, BlockInv (State.resetWith cfg) ∧ GapInv (State.resetWith cfg)

/-- Every step keeps the invariant of the block. Its clauses are inferences that the spec marks as derived from the
phases and the commands (41_echo.md R131; 42_heading.md R157; 43_servo.md R185; 60_exceptions.md R245 (c)), CFG_FATAL's
(60_exceptions.md R250), and the sequencer's own bookkeeping. -/
def Obligations.StepKeepsTheInvariant : Prop :=
  ∀ s t : State, BlockInv s → step s = .next t → BlockInv t

/-- Every step keeps the gap registers on a row of 44_gap.md R207's table (which the spec derives from R201 and R206), as
far as the search has come. -/
def Obligations.StepKeepsTheGapTable : Prop :=
  ∀ s t : State, GapInv s → step s = .next t → GapInv t

/-- No input makes a well-configured block fault or refuse: the block's rules hold under every draw (the environment's
liberties, 60_exceptions.md R261, which the spec marks as derived) and it has no traps (R248). -/
def Obligations.NoInputStopsTheBlock : Prop :=
  ∀ s : State, s.cfg.wf = true → BlockInv s → ∃ t, step s = .next t

/-- The end of a run lasts: once the sequencer is idle, nothing is outstanding and no trigger pulse is in progress, a cycle
with no reset and no host access leaves the block so, and the end state is the same but for what ECHO_IN still changes,
ECHO_DURATION and ECHO_STATE; while ECHO_IN keeps its level DURATION holds too, and ECHO_STATE with a stopped timer. So the
run is over after the cycle exactly when it was over before it. The end state lists what every address of the map reads,
PWM_WRITES and PWM_VAL (70_reset_and_hazards.md R289). -/
def Obligations.EndedRunStaysEnded : Prop :=
  (∀ s t : State, Quiescent s → (nextInputs s).reset = false → (nextInputs s).host = .none → step s = .next t →
    Quiescent t ∧ (RunOver t ↔ RunOver s) ∧ t.endState.settled = s.endState.settled ∧
    (∀ addr, addr ≠ 0x14#8 → addr ≠ 0x18#8 → hostRead t addr = hostRead s addr) ∧
    ((nextInputs s).echoIn = s.echoSync →
      hostRead t 0x14#8 = hostRead s 0x14#8 ∧ (s.trun = false → t.endState = s.endState))) ∧
  ∀ (s : State) (addr : Byte) (v : Word),
    ((addr, v) ∈ s.endState.registers ↔ addr.toNat % 4 = 0 ∧ addr.toNat < 0x50 ∧ v = hostRead s addr) ∧
    ((addr, v) ∈ s.endState.settled.registers ↔
      (addr, v) ∈ s.endState.registers ∧ addr ≠ 0x14#8 ∧ addr ≠ 0x18#8) ∧
    (s.endState.pwmWrites = s.pwmWrites ∧ s.endState.pwmVal = s.servoPulse) ∧
    s.endState.settled.pwmWrites = s.pwmWrites ∧ s.endState.settled.pwmVal = s.servoPulse

/-! ### The autonomous phases of the echo converter -/

/-- The phases before the sequencer touch the echo converter's registers and the bus port alone, whatever command is
in progress (40_command.md R102; 60_exceptions.md R240, R244). The bus phase takes a response that is waited for: BUS_PEND
is cleared and the response handed over; with none valid the port is unchanged, and a response with BUS_PEND = 0 is
ignored (20_memory.md R73). -/
def Obligations.AutonomousPhasesFrame : Prop :=
  ∀ (inp : Inputs) (s : State), let t := autonomous inp s
    t = { s with
      tcnt := t.tcnt, ovf := t.ovf, trun := t.trun, phase := t.phase, echoSync := t.echoSync, echoNew := t.echoNew
      duration := t.duration, trigCnt := t.trigCnt, busPend := t.busPend, busRsp := t.busRsp } ∧
    t.echoSync = inp.echoIn ∧
    (s.busPend.isSome = true → inp.grspValid = true →
      t.busPend = none ∧ t.busRsp = some ⟨inp.grspStatus, inp.grspData⟩) ∧
    (inp.grspValid = false → t.busPend = s.busPend ∧ t.busRsp = s.busRsp) ∧
    (s.busPend = none → t = autonomous { inp with grspValid := false } s)

/-- While TRUN = 1 a timer phase adds one to TCNT + (OVF << 8), modulo 2^24, and touches nothing else; while TRUN = 0
it touches nothing (41_echo.md R120, R121). -/
def Obligations.TimerCountsEveryTick : Prop :=
  ∀ s : State,
    (s.trun = true → (rawTicks (timerTick s).tcnt (timerTick s).ovf).toNat = ((rawTicks s.tcnt s.ovf).toNat + 1) % 2 ^ 24) ∧
    (s.trun = false → timerTick s = s) ∧
    timerTick s = { s with tcnt := (timerTick s).tcnt, ovf := (timerTick s).ovf } ∧
    (rawTicks s.tcnt s.ovf).toNat = s.tcnt.toNat + 256 * s.ovf.toNat

/-- A segment that loads TRIG_CNT leaves it 20, and a count of 20 at the end of cycle c gives a pulse of 20 cycles: with
no reset and no later load, TRIG_OUT is 1 at the end of cycles c to c + 19 and 0 from the end of cycle c + 20 on; the
trigger phase itself counts one down and touches nothing else (41_echo.md R122, whose sentence on cycles the spec derives
from the phase and 10_state.md R45). -/
def Obligations.TriggerPulseLastsTwentyCycles : Prop :=
  (∀ (s t : State) (i : Instr) (l : Seg), (nextInputs s).reset = false → step s = .next t →
    dueSegment (atSequencer s) = some l → decode (currentWord s) = .ok i → loadsTrigger i l = true →
    t.trigCnt = 20#8) ∧
  (∀ (s : State) (k : Nat), s.cfg.wf = true → BlockInv s → s.trigCnt = 20#8 → noResetFor k s →
    (∀ (j : Nat) (u : State) (i : Instr) (l : Seg), j < k → core.run j s = .next u →
      dueSegment (atSequencer u) = some l → decode (currentWord u) = .ok i → loadsTrigger i l = false) →
    ∃ t, core.run k s = .next t ∧ t.trigOut = decide (k < 20) ∧ t.trigCnt = BitVec.ofNat 8 (20 - k)) ∧
  ∀ (s : State) (k : Nat), s.trigCnt = 20#8 →
    (triggerTick^[k] s).trigOut = decide (k < 20) ∧
    triggerTick^[k] s = { s with trigCnt := BitVec.ofNat 8 (20 - k) }

/-- A change of the sampled level is an edge, PHASE picks its handler, and no change is no edge (41_echo.md R123). The
rising edge clears and starts the timer and leaves the last measurement (R124); the falling edge stops it and stores half
the raw count (R125). -/
def Obligations.EdgeHandlers : Prop :=
  ∀ (e : Bool) (s : State),
    (e = s.echoSync → edgePhase e s = s) ∧
    (e ≠ s.echoSync → s.phase = false →
      edgePhase e s = { s with echoSync := e, tcnt := 0#8, ovf := 0#16, trun := true, phase := true }) ∧
    (e ≠ s.echoSync → s.phase = true →
      edgePhase e s =
        { s with
          echoSync := e, trun := false, phase := false, echoNew := true
          duration := BitVec.ofNat 32 ((s.tcnt.toNat + 256 * s.ovf.toNat) / 2) })

/-- The sentence that the spec derives in 41_echo.md R125: if the rising edge was handled in cycle n and this falling
edge in cycle m = n + d, the raw duration is (m − n) mod 2^24 ticks and DURATION is its half. The state is the one at the
end of cycle n: PHASE = 1 and the timer cleared. ECHO_IN is high in the d − 1 cycles after and low in the d-th. -/
def Obligations.EchoDurationIsThePulseLength : Prop :=
  ∀ (s : State) (d : Nat), s.cfg.wf = true → BlockInv s → 0 < d →
    s.phase = true → s.tcnt = 0#8 → s.ovf = 0#16 → noResetFor d s →
    (∀ k, k + 1 < d → (s.inputsAt k).echoIn = true) → (s.inputsAt (d - 1)).echoIn = false →
    ∃ t, core.run d s = .next t ∧
      (rawTicks t.tcnt t.ovf).toNat = d % 2 ^ 24 ∧ t.duration.toNat = d % 2 ^ 24 / 2 ∧
      t.phase = false ∧ t.trun = false

/-- Only the falling-edge handler and reset write DURATION: in any other cycle it keeps its value
(10_state.md R28; 90_conflicts.md C5). -/
def Obligations.DurationChangesOnlyAtAFallingEdge : Prop :=
  ∀ s t : State, (nextInputs s).reset = false → step s = .next t →
    ¬ ((nextInputs s).echoIn ≠ s.echoSync ∧ s.phase = true) → t.duration = s.duration

/-! ### Waiting -/

/-- A counted wait ends on time: a busy block that waits SEQ_WAIT = n before a segment runs n cycles with no segment,
whatever the inputs but reset, and is then due to run that segment in the next; RESULT, CODE and LAST_OPC keep the
previous command's values (00_scope.md R12; 10_state.md R45). -/
def Obligations.CountedWaitEndsOnTime : Prop :=
  ∀ (s : State) (l : Seg), s.cfg.wf = true → s.busy = true → s.seqStep = .seg l → l.awaits = none →
    noResetFor s.seqWait.toNat s →
    (∀ j, j < s.seqWait.toNat → ∃ u, core.run j s = .next u ∧ dueSegment (atSequencer u) = none) ∧
    ∃ t, core.run s.seqWait.toNat s = .next t ∧ t.seqStep = .seg l ∧ t.seqWait = 0#32 ∧ t.busy = true ∧
      currentWord t = currentWord s ∧ t.result = s.result ∧ t.code = s.code ∧ t.lastOpc = s.lastOpc ∧
      dueSegment (atSequencer t) = some l

/-- The gyroscope bus. As long as no response comes and no reset, a segment that waits on the bus goes on waiting,
however many cycles pass, and the run is not over (20_memory.md R73; 70_reset_and_hazards.md R289). A response to an
outstanding request ends the wait: BUS_PEND is cleared and the waiting segment is due in the same cycle with the
response's status and bytes (R73). GREQ_VALID is 0 in a cycle that runs no segment, and in one that does it is 1 exactly
when a request of its kind is outstanding after it (R72). -/
def Obligations.SilentBusHangsTheCommand : Prop :=
  (∀ (s : State) (l : Seg) (n : Nat), s.cfg.wf = true → s.busy = true → s.seqStep = .seg l → l.awaits.isSome = true →
    noResetFor n s → (∀ k, k < n → (s.inputsAt k).grspValid = false) →
    ∃ t, core.run n s = .next t ∧ t.seqStep = .seg l ∧ t.busPend = s.busPend ∧ t.busy = true ∧
      currentWord t = currentWord s ∧ t.result = s.result ∧ t.code = s.code ∧ ¬ Quiescent t) ∧
  (∀ (s : State) (l : Seg), s.seqStep = .seg l → l.awaits.isSome = true → s.busPend.isSome = true →
    (nextInputs s).grspValid = true →
    dueSegment (atSequencer s) = some l ∧ (atSequencer s).busPend = none ∧
      (atSequencer s).busRsp = some ⟨(nextInputs s).grspStatus, (nextInputs s).grspData⟩) ∧
  ∀ s t : State, (nextInputs s).reset = false → step s = .next t →
    (dueSegment (atSequencer s) = none → t.greq = none) ∧
    (BlockInv s → dueSegment (atSequencer s) ≠ none → t.greq.map GyroRequest.kind = t.busPend)

/-- ECHO.READ from its first segment: 40 021 cycles later RESULT and DIST hold DURATION div 58 and the code is OK exactly
when a falling edge was handled in the window, which is the 40 020 cycles after the first; else it is STALE. BUSY is 0
unless the host issued in that last cycle (41_echo.md R127, R128). The edge's clause is for the states in which PHASE and
ECHO_SYNC agree, which every step keeps (R131). -/
def Obligations.EchoReadCompletes : Prop :=
  ∀ s : State, s.cfg.wf = true → s.busy = true → s.seqStep = .seg .s0 → s.seqWait = 0#32 →
    decode (currentWord s) = .ok .echoRead → noResetFor (trigCycles + windowCycles + 1) s →
    ∃ t, core.run (trigCycles + windowCycles + 1) s = .next t ∧
      t.result = t.dist ∧ t.dist.toNat = t.duration.toNat / 58 ∧ t.lastOpc = 0x02#8 ∧
      t.code = (if t.echoNew then .ok else .stale) ∧
      (EdgesPaired s → (t.code = .ok ↔
        ∃ k, k < 40020 ∧ (s.inputsAt k).echoIn = true ∧ (s.inputsAt (k + 1)).echoIn = false)) ∧
      ((∀ v, (s.inputsAt (trigCycles + windowCycles)).host ≠ .write 0x04#8 v) → t.busy = false ∧ t.seqStep = .idle)

/-! ### The host port -/

/-- A host read returns the register's value after phase 6, and changes no state: the cycle ends as it would have with no
access, but for HOST_RDATA (20_memory.md R64). That HOST_RDATA holds nothing in a cycle with no read is the model's choice
(log entry 4). -/
def Obligations.HostReadsHaveNoSideEffect : Prop :=
  ∀ (s t : State) (inp : Inputs) (rest : List Inputs) (addr : Byte), inp.reset = false →
    step { s with script := { inp with host := .none } :: rest } = .next t →
    step { s with script := { inp with host := .read addr } :: rest } = .next { t with hostRData := some (hostRead t addr) } ∧
    t.hostRData = none

/-- R61: a misaligned address reads 0 like an unmapped one, and a read changes nothing but HOST_RDATA; a write to it, as
to any address but CMD_ARG's and CMD_OP's, has no effect (20_memory.md R65). -/
def Obligations.DeadAndReadOnlyAddresses : Prop :=
  ∀ (s : State) (addr : Byte) (v : Word),
    (addr.toNat % 4 ≠ 0 ∨ 0x50 ≤ addr.toNat → hostRead s addr = 0#32) ∧
    hostPhase (.read addr) s = { s with hostRData := some (hostRead s addr) } ∧
    (addr ≠ 0x00#8 → addr ≠ 0x04#8 → hostPhase (.write addr v) s = s) ∧
    hostPhase (.write 0x00#8 v) s = { s with cmdArg := v }

/-- R63: what each of the twenty mapped addresses reads, with the fields of STATUS (10_state.md R42), ECHO_STATE and
GAP_INFO (10_state.md R39) as sums of their weights; and the numbers of the codes (60_exceptions.md R246) and of the paths
(10_state.md R39). -/
def Obligations.HostRegisterMap : Prop :=
  ([Code.ok, .illegal, .invalidRange, .gyroBusErr, .notInit, .alreadyCal, .headingRange, .pulseRange, .angleDomain,
      .noGap, .notMappable, .stale].map fun c => c.bits.toNat) = [0, 1, 2, 3, 4, 5, 6, 7, 8, 9, 10, 11] ∧
  ([GapPath.notRun, .right, .left, .sweep].map fun p => p.bits.toNat) = [0, 1, 2, 3] ∧
  ∀ s : State,
    (hostRead s 0x00#8 = s.cmdArg ∧ hostRead s 0x04#8 = s.cmdOp ∧ hostRead s 0x0C#8 = s.result) ∧
    (hostRead s 0x08#8).toNat = s.busy.toNat + 2 ^ 4 * s.code.bits.toNat + 2 ^ 8 * s.cfgFatal.toNat +
      2 ^ 9 * s.ovr.toNat + 2 ^ 10 * s.initOk.toNat + 2 ^ 11 * s.calDone.toNat + 2 ^ 16 * s.lastOpc.toNat ∧
    (hostRead s 0x10#8 = s.dist ∧ hostRead s 0x14#8 = s.duration) ∧
    (hostRead s 0x18#8).toNat = s.phase.toNat + 2 * s.echoNew.toNat + 2 ^ 2 * s.trun.toNat +
      2 ^ 3 * (decide (s.trigCnt ≠ 0#8)).toNat + 2 ^ 4 * s.echoSync.toNat + 2 ^ 8 * s.tcnt.toNat + 2 ^ 16 * s.ovf.toNat ∧
    (hostRead s 0x1C#8 = s.gyroSens ∧ hostRead s 0x20#8 = s.gyroRange) ∧
    (hostRead s 0x24#8 = s.gyroOffX ∧ hostRead s 0x28#8 = s.gyroOffY ∧ hostRead s 0x2C#8 = s.gyroOffZ) ∧
    (hostRead s 0x30#8 = s.headRoll ∧ hostRead s 0x34#8 = s.headPitch ∧ hostRead s 0x38#8 = s.headYaw) ∧
    ((hostRead s 0x3C#8).toNat = s.servoPulse.toNat ∧ hostRead s 0x40#8 = s.pwmWrites) ∧
    ((hostRead s 0x44#8).toNat = s.gapSel.toNat ∧ hostRead s 0x48#8 = s.gapMaxd) ∧
    (hostRead s 0x4C#8).toNat = s.gapPath.bits.toNat + 2 ^ 4 * s.gapIdx.toNat + 2 ^ 8 * s.gapStaleAny.toNat

/-- R100: an accepted write to CMD_OP latches the word, with the CMD_ARG written before it, and starts the command. -/
def Obligations.AcceptanceLatchesTheCommand : Prop :=
  ∀ (s : State) (v : Word), s.busy = false →
    hostPhase (.write 0x04#8 v) s =
      { s with
        cmdOp := v, curOp := v, curArg := s.cmdArg, busy := true, seqStep := .seg .s0, seqWait := 0#32 }

/-- R101: a write to CMD_OP while BUSY = 1 sets CMD_OP and OVR alone, and OVR stays 1 until reset. -/
def Obligations.OverrunIsRecordedAndIgnored : Prop :=
  (∀ (s : State) (v : Word), s.busy = true →
    hostPhase (.write 0x04#8 v) s = { s with cmdOp := v, ovr := true }) ∧
  ∀ s t : State, s.ovr = true → (nextInputs s).reset = false → step s = .next t → t.ovr = true

/-- The issue protocol: a host that writes CMD_ARG and then CMD_OP to an idle block has its command latched and
started after two cycles (30_encoding.md R81, R89; 40_command.md R100). -/
def Obligations.IssueStartsTheCommand : Prop :=
  ∀ (s : State) (i : Instr) (a b : Inputs) (rest : List Inputs), s.cfg.wf = true → s.busy = false → s.seqStep = .idle →
    a.reset = false → b.reset = false → issue i = [a.host, b.host] → s.script = a :: b :: rest →
    ∃ t, core.run 2 s = .next t ∧ decode (currentWord t) = .ok i ∧ currentWord t = encode i ∧ t.busy = true ∧
      t.seqStep = .seg .s0 ∧ t.seqWait = 0#32 ∧ t.result = s.result ∧ t.code = s.code ∧ t.ovr = s.ovr

/-- While a command is in progress its latched word does not change; a new word is latched only in the cycle in
which the command finishes (40_command.md R105). -/
def Obligations.LatchedWordHoldsWhileBusy : Prop :=
  ∀ s t : State, s.busy = true → (nextInputs s).reset = false → step s = .next t →
    currentWord t = currentWord s ∨
      ∃ v u, (nextInputs s).host = .write 0x04#8 v ∧ sequencerPhase (atSequencer s) = .next u ∧ u.busy = false ∧
        currentWord t = commandWord v s.cmdArg

/-- CFG_FATAL and CAL_DONE are cleared by reset alone (10_state.md R34, R42; 60_exceptions.md R250). -/
def Obligations.StickyFlagsClearOnlyAtReset : Prop :=
  ∀ s t : State, (nextInputs s).reset = false → step s = .next t →
    (s.cfgFatal = true → t.cfgFatal = true) ∧ (s.calDone = true → t.calDone = true)

/-! ### The commands: results, frames and completion -/

/-- `finish(code)` writes CODE, LAST_OPC, BUSY, SEQ_STEP and SEQ_WAIT, and nothing else (40_command.md R103). -/
def Obligations.FinishRecordsTheOutcome : Prop :=
  ∀ (c : Code) (s : State),
    finish c s =
      { s with
        code := c, lastOpc := s.curOp.extractLsb' 24 8, busy := false, seqStep := .idle, seqWait := 0#32 }

/-- NOP finishes OK and an illegal word finishes ILLEGAL; neither changes anything else (40_command.md R106, R107). -/
def Obligations.NopAndIllegalOnlyFinish : Prop :=
  ∀ s : State, s.seqStep = .seg .s0 →
    exec .nop s = .next (finish .ok s) ∧
    ∀ e, decode (currentWord s) = .error e → runSegment s = .next (finish .illegal s)

/-- ECHO.TRIGGER loads the trigger count and finishes, and touches no measurement state (41_echo.md R126). -/
def Obligations.TriggerCommandLoadsThePulse : Prop :=
  ∀ s : State, s.seqStep = .seg .s0 → exec .echoTrigger s = .next (finish .ok { s with trigCnt := 20#8 })

/-- The two segments of ECHO.READ: the measurement starts and waits its window; then DIST and RESULT take the distance
and the code says whether it is fresh (41_echo.md R127, R128). -/
def Obligations.EchoReadSegments : Prop :=
  ∀ s : State,
    (s.seqStep = .seg .s0 →
      exec .echoRead s = .next (waiting 40020 .readS1 { s with echoNew := false, trigCnt := 20#8 })) ∧
    (s.seqStep = .seg .readS1 →
      exec .echoRead s = .next (finish (if s.echoNew then .ok else .stale)
        { s with
          dist := BitVec.ofNat 32 (s.duration.toNat / 58), result := BitVec.ofNat 32 (s.duration.toNat / 58) }))

/-- ECHO.CONVERT's distance is (tc + 256 × ovf) div 116, at most 144 631, and no echo register changes
(41_echo.md R129). -/
def Obligations.ConvertComputesTheDistance : Prop :=
  ∀ (s : State) (tc : Byte) (ovf : Half), s.seqStep = .seg .s0 →
    exec (.echoConvert tc ovf) s =
      .next (finish .ok { s with result := BitVec.ofNat 32 ((tc.toNat + 256 * ovf.toNat) / 116) }) ∧
    (tc.toNat + 256 * ovf.toNat) / 116 ≤ 144631

/-- GYRO.INIT with a range that is not one of the four: CFG_FATAL and INVALID_RANGE, no bus request, GYRO_SENS,
GYRO_RANGE and INIT_OK unchanged (42_heading.md R152). -/
def Obligations.InitRefusesOtherRanges : Prop :=
  ∀ (s : State) (range : Word), s.seqStep = .seg .s0 → range.toNat ∉ [250, 500, 1000, 2000] →
    exec (.gyroInit range) s = .next (finish .invalidRange { s with cfgFatal := true })

/-- GYRO.INIT of 250, 500, 1000 or 2000 issues the pre-initialisation writes in order and then the write of that range's
own register value, one after each response with status 0 (42_heading.md R152; 00_scope.md R7; 20_memory.md R72). -/
def Obligations.InitIssuesItsWritesInOrder : Prop :=
  ∀ (s : State) (range : Word) (val : Byte) (rsp : GyroResponse), (range, val) ∈ rangeWrites s.cfg.gyroRangeVal →
    (s.seqStep = .seg .s0 → exec (.gyroInit range) s = .next (initRequested val 0#16 s)) ∧
    (s.seqStep = .seg .initPW → s.busRsp = some rsp → rsp.status = 0#8 →
      exec (.gyroInit range) s = .next (initRequested val (s.seqI + 1#16) s))

/-- GYRO.INIT completes when the range write is answered with status 0: the sensitivity of R153, the range, INIT_OK
and OK (42_heading.md R152, R153). -/
def Obligations.InitCompletes : Prop :=
  ∀ (s : State) (rsp : GyroResponse), s.seqStep = .seg .initRW → s.busRsp = some rsp → rsp.status = 0#8 →
    exec (.gyroInit 250#32) s =
      .next (finish .ok { s with gyroSens := 0x43030000#32, gyroRange := 250#32, initOk := true }) ∧
    exec (.gyroInit 500#32) s =
      .next (finish .ok { s with gyroSens := 0x42830000#32, gyroRange := 500#32, initOk := true }) ∧
    exec (.gyroInit 1000#32) s =
      .next (finish .ok { s with gyroSens := 0x42033333#32, gyroRange := 1000#32, initOk := true }) ∧
    exec (.gyroInit 2000#32) s =
      .next (finish .ok { s with gyroSens := 0x41833333#32, gyroRange := 2000#32, initOk := true })

/-- A non-zero write status ends GYRO.INIT: INIT_OK cleared, CFG_FATAL set, GYRO_BUS_ERR, no later write
(42_heading.md R152; 20_memory.md R74). -/
def Obligations.InitFailsOnABusError : Prop :=
  ∀ (s : State) (range : Word) (rsp : GyroResponse), range.toNat ∈ [250, 500, 1000, 2000] →
    s.seqStep = .seg .initPW ∨ s.seqStep = .seg .initRW → s.busRsp = some rsp → rsp.status ≠ 0#8 →
    exec (.gyroInit range) s = .next (finish .gyroBusErr { s with initOk := false, cfgFatal := true })

/-- GYRO.CALIBRATE's checks, in order, and its start (42_heading.md R154). -/
def Obligations.CalibrateChecksAndStarts : Prop :=
  ∀ s : State, s.seqStep = .seg .s0 →
    (s.initOk = false → exec .gyroCalibrate s = .next (finish .notInit s)) ∧
    (s.initOk = true → s.calDone = true → exec .gyroCalibrate s = .next (finish .alreadyCal s)) ∧
    (s.initOk = true → s.calDone = false →
      exec .gyroCalibrate s =
        .next (readRequested .calC1 { s with seqI := 0#16, calSumX := 0#32, calSumY := 0#32, calSumZ := 0#32 }))

/-- GYRO.CALIBRATE adds each scaled sample to its sum and waits the delay; then it reads again while samples are
missing (42_heading.md R150, R151, R154). The pattern of a NaN sum is a free draw, whatever it is. -/
def Obligations.CalibrateSumsItsSamples : Prop :=
  ∀ (s : State) (rsp : GyroResponse),
    (s.seqStep = .seg .calC1 → s.busRsp = some rsp →
      let sum := fun (axis : Nat) (old : Word) (first second : Byte) =>
        storeF32 s axis ((F32.ofBits old).add ((F32.ofInt (rateOf s.cfg first second)).div (F32.ofBits s.gyroSens)))
      exec .gyroCalibrate s = .next (waiting (s.cfg.calDelayMs.toNat * 2000) .calC2
        { s with
          calSumX := sum 0 s.calSumX rsp.data.b0 rsp.data.b1
          calSumY := sum 1 s.calSumY rsp.data.b2 rsp.data.b3
          calSumZ := sum 2 s.calSumZ rsp.data.b4 rsp.data.b5
          seqI := s.seqI + 1#16 })) ∧
    (s.seqStep = .seg .calC2 → s.seqI.toNat < s.cfg.calN → exec .gyroCalibrate s = .next (readRequested .calC1 s))

/-- GYRO.CALIBRATE completes after CAL_N samples: each offset is its sum divided once by f32(CAL_N), CAL_DONE is set
(42_heading.md R154). -/
def Obligations.CalibrateCompletes : Prop :=
  ∀ s : State, s.seqStep = .seg .calC2 → s.cfg.calN ≤ s.seqI.toNat →
    exec .gyroCalibrate s = .next (finish .ok
      { s with
        gyroOffX := storeF32 s 0 ((F32.ofBits s.calSumX).div (F32.ofInt s.cfg.calN))
        gyroOffY := storeF32 s 1 ((F32.ofBits s.calSumY).div (F32.ofInt s.cfg.calN))
        gyroOffZ := storeF32 s 2 ((F32.ofBits s.calSumZ).div (F32.ofInt s.cfg.calN))
        calDone := true })

/-- GYRO.SAMPLE's check and its read request (42_heading.md R155). -/
def Obligations.SampleChecksAndReads : Prop :=
  ∀ (s : State) (dt : Word), s.seqStep = .seg .s0 →
    (s.initOk = false → exec (.gyroSample dt) s = .next (finish .notInit s)) ∧
    (s.initOk = true → exec (.gyroSample dt) s = .next (readRequested .sampleS1 s))

/-- GYRO.SAMPLE completes when the read is answered: each accumulator adds (scaled(v) −f offset) ×f dt, all three in
one segment, and nothing else changes but what `finish` writes (42_heading.md R150, R151, R155; 20_memory.md R69).
The pattern of a NaN accumulator is a free draw, whatever it is. -/
def Obligations.SampleIntegratesTheRates : Prop :=
  ∀ (s : State) (dt : Word) (rsp : GyroResponse), s.seqStep = .seg .sampleS1 → s.busRsp = some rsp →
    let x := rateOf s.cfg rsp.data.b0 rsp.data.b1
    let y := rateOf s.cfg rsp.data.b2 rsp.data.b3
    let z := rateOf s.cfg rsp.data.b4 rsp.data.b5
    let rate := fun (v : Int) (off : Word) =>
      ((F32.ofInt v).div (F32.ofBits s.gyroSens)).sub (F32.ofBits off)
    exec (.gyroSample dt) s = .next (finish .ok
      { s with
        headRoll := storeF32 s 0 ((F32.ofBits s.headRoll).add ((rate x s.gyroOffX).mul (F32.ofBits dt)))
        headPitch := storeF32 s 1 ((F32.ofBits s.headPitch).add ((rate y s.gyroOffY).mul (F32.ofBits dt)))
        headYaw := storeF32 s 2 ((F32.ofBits s.headYaw).add ((rate z s.gyroOffZ).mul (F32.ofBits dt))) })

/-- GYRO.RESET zeroes the three accumulators and changes nothing else but what `finish` writes (42_heading.md R156). -/
def Obligations.GyroResetZeroesTheAccumulators : Prop :=
  ∀ s : State, s.seqStep = .seg .s0 →
    exec .gyroReset s = .next (finish .ok { s with headRoll := 0#32, headPitch := 0#32, headYaw := 0#32 })

/-- Who writes the heading integrator's registers: HEAD_* change only in a cycle of GYRO.SAMPLE or GYRO.RESET, and the
offsets only in the last cycle of the one calibration since reset (42_heading.md R154 to R156; the spec derives it from
them in R157 (a), (b)). -/
def Obligations.HeadingRegistersHaveTheirWriters : Prop :=
  ∀ s t : State, BlockInv s → (nextInputs s).reset = false → step s = .next t →
    ((t.headRoll, t.headPitch, t.headYaw) ≠ (s.headRoll, s.headPitch, s.headYaw) →
      decode (currentWord s) = .ok .gyroReset ∨ ∃ dt, decode (currentWord s) = .ok (.gyroSample dt)) ∧
    ((t.gyroOffX, t.gyroOffY, t.gyroOffZ) ≠ (s.gyroOffX, s.gyroOffY, s.gyroOffZ) →
      decode (currentWord s) = .ok .gyroCalibrate ∧ s.calDone = false ∧ t.calDone = true)

/-- SERVO.SET_HEADING with −90 < y < 90: y = ±mag × 2^-149, n is |y| to the nearest integer with ties away from zero,
and the table entry of ±n is written, strobed, counted and left in RESULT (43_servo.md R180, R181). -/
def Obligations.SetHeadingWritesTheTableEntry : Prop :=
  ∀ (s : State) (yaw : Word) (neg : Bool) (mag n : Nat), s.cfg.wf = true → s.seqStep = .seg .s0 →
    F32.ofBits yaw = .fin neg mag → mag < 90 * 2 ^ 149 →
    2 * n * 2 ^ 149 ≤ 2 * mag + 2 ^ 149 → 2 * mag + 2 ^ 149 < 2 * (n + 1) * 2 ^ 149 →
    ∃ p, s.cfg.servoTable[if neg then 90 - n else 90 + n]? = some p ∧
      exec (.servoSetHeading yaw) s = .next (finish .ok { pwmWritten p s with result := p.setWidth 32 })

/-- SERVO.SET_HEADING with y not in (−90, 90), NaN and infinities included: HEADING_RANGE, no write, RESULT unchanged
(43_servo.md R181; 90_conflicts.md C2). -/
def Obligations.SetHeadingOutOfRangeHoldsThePulse : Prop :=
  ∀ (s : State) (yaw : Word), s.seqStep = .seg .s0 →
    (F32.ofBits yaw = .nan ∨ (∃ neg, F32.ofBits yaw = .inf neg) ∨
      ∃ neg mag, F32.ofBits yaw = .fin neg mag ∧ 90 * 2 ^ 149 ≤ mag) →
    exec (.servoSetHeading yaw) s = .next (finish .headingRange s)

/-- SERVO.SET_PULSE writes its operand when the whole 32-bit value is in [PULSE_MIN, PULSE_MAX], and otherwise
finishes PULSE_RANGE with no write (43_servo.md R182). -/
def Obligations.SetPulseChecksTheRange : Prop :=
  ∀ (s : State) (pulse : Word), s.seqStep = .seg .s0 →
    (s.cfg.pulseMin.toNat ≤ pulse.toNat → pulse.toNat ≤ s.cfg.pulseMax.toNat →
      exec (.servoSetPulse pulse) s = .next (finish .ok (pwmWritten (BitVec.ofNat 16 pulse.toNat) s))) ∧
    (pulse.toNat < s.cfg.pulseMin.toNat ∨ s.cfg.pulseMax.toNat < pulse.toNat →
      exec (.servoSetPulse pulse) s = .next (finish .pulseRange s))

/-- SERVO.ANGLE_TO_PULSE's two segments and its domain; under wf_range the pulse lies in the physical range
(43_servo.md R183). -/
def Obligations.AngleToPulseInterpolates : Prop :=
  ∀ (s : State) (angle : Word), s.cfg.wf = true → s.seqStep = .seg .s0 →
    let lo := s.cfg.pulseMin.toNat
    let mid := s.cfg.pulseMid.toNat
    let hi := s.cfg.pulseMax.toNat
    let first := lo + angle.toNat * (mid - lo) / 90
    let second := mid + (angle.toNat - 91) * (hi - mid) / 89
    (0 ≤ angle.toInt → angle.toInt ≤ 90 →
      exec (.servoAngleToPulse angle) s = .next (finish .ok { s with result := BitVec.ofNat 32 first }) ∧
        lo ≤ first ∧ first ≤ mid) ∧
    (91 ≤ angle.toInt → angle.toInt ≤ 180 →
      exec (.servoAngleToPulse angle) s = .next (finish .ok { s with result := BitVec.ofNat 32 second }) ∧
        mid ≤ second ∧ second ≤ hi) ∧
    (angle.toInt < 0 ∨ 180 < angle.toInt → exec (.servoAngleToPulse angle) s = .next (finish .angleDomain s))

/-- Two SERVO.SET_HEADING with the same operand: an in-range pair writes the same pulse twice and counts two writes; an
out-of-range pair writes nothing (43_servo.md R184, which the spec derives from R180 and R181). -/
def Obligations.SetHeadingTwiceWritesTwice : Prop :=
  ∀ (s t u : State) (yaw : Word), s.cfg.wf = true → s.seqStep = .seg .s0 →
    exec (.servoSetHeading yaw) s = .next t → exec (.servoSetHeading yaw) { t with seqStep := .seg .s0 } = .next u →
    (t.code = .ok → u.code = .ok ∧ u.servoPulse = t.servoPulse ∧ t.pwmWrites = s.pwmWrites + 1#32 ∧
      u.pwmWrites = s.pwmWrites + 2#32 ∧ u.result = t.result) ∧
    (t.code ≠ .ok → u.code = t.code ∧ u.servoPulse = s.servoPulse ∧ u.pwmWrites = s.pwmWrites)

/-- PWM_WRITES counts the cycles with PWM_WR = 1, and the PWM value changes in no other cycle
(10_state.md R37, R38; 43_servo.md R180). -/
def Obligations.PwmWritesCountsTheStrobes : Prop :=
  ∀ s t : State, (nextInputs s).reset = false → step s = .next t →
    t.pwmWrites = s.pwmWrites + (if t.pwmWr then 1#32 else 0#32) ∧ (t.pwmWr = false → t.pwmVal = s.pwmVal)

/-- GAP.FIND up to the sweep: G0 clears the gap registers and steers right; G1, G3 and G5 start a measurement; G2 and
G4 measure, note a stale one, and take the early exit on a distance above 37 or go on (44_gap.md R201, R202). -/
def Obligations.GapFindSearchesRightThenLeft : Prop :=
  ∀ s : State, s.cfg.wf = true →
    let d := BitVec.ofNat 32 (s.duration.toNat / 58)
    let m := { s with dist := d, gapStaleAny := s.gapStaleAny || !s.echoNew }
    let started := fun l => waiting 40020 l { s with echoNew := false, trigCnt := 20#8 }
    let centred := fun u : State => waiting 2000000 .ge (pwmWritten s.cfg.pulseCenter u)
    (s.seqStep = .seg .s0 →
      exec .gapFind s = .next (waiting 2000000 .g1 (pwmWritten s.cfg.pulseRight
        { s with
          gapSel := 0#16, gapMaxd := 0#32, gapPath := .notRun, gapIdx := 7#3, gapStaleAny := false, seqK := 0#3 }))) ∧
    (s.seqStep = .seg .g1 → exec .gapFind s = .next (started .g2)) ∧
    (s.seqStep = .seg .g3 → exec .gapFind s = .next (started .g4)) ∧
    (s.seqStep = .seg .g5 → exec .gapFind s = .next (started .g6)) ∧
    (s.seqStep = .seg .g2 → 37 < s.duration.toNat / 58 →
      exec .gapFind s = .next (centred { m with gapSel := s.cfg.pulseRight, gapMaxd := d, gapPath := .right })) ∧
    (s.seqStep = .seg .g2 → s.duration.toNat / 58 ≤ 37 →
      exec .gapFind s = .next (waiting 2000000 .g3 (pwmWritten s.cfg.pulseLeft m))) ∧
    (s.seqStep = .seg .g4 → 37 < s.duration.toNat / 58 →
      exec .gapFind s = .next (centred { m with gapSel := s.cfg.pulseLeft, gapMaxd := d, gapPath := .left })) ∧
    (s.seqStep = .seg .g4 → s.duration.toNat / 58 ≤ 37 →
      exec .gapFind s = .next (waiting 2000000 .g5 (pwmWritten (s.cfg.sweep[0]).pulse
        { m with gapPath := .sweep, seqK := 0#3 })))

/-- GAP.FIND's sweep point: G6 records a strictly greater distance with its pulse and index, then steers to the next
point, or re-centres after the seventh (44_gap.md R201, R203, R204). -/
def Obligations.GapFindSweepPoint : Prop :=
  ∀ (s : State) (p : SweepPoint), s.cfg.wf = true → s.seqStep = .seg .g6 → s.cfg.sweep[s.seqK.toNat]? = some p →
    let d := BitVec.ofNat 32 (s.duration.toNat / 58)
    let m := { s with dist := d, gapStaleAny := s.gapStaleAny || !s.echoNew }
    let u := if s.gapMaxd.toNat < s.duration.toNat / 58
      then { m with gapMaxd := d, gapSel := p.pulse, gapIdx := s.seqK } else m
    (∀ q, s.cfg.sweep[s.seqK.toNat + 1]? = some q →
      exec .gapFind s = .next (waiting 2000000 .g5 (pwmWritten q.pulse { u with seqK := s.seqK + 1#3 }))) ∧
    (s.seqK = 6#3 → exec .gapFind s = .next (waiting 2000000 .ge (pwmWritten s.cfg.pulseCenter u)))

/-- Seven sweep measurements from a cleared record select the greatest distance, the first of equals, and never a zero
(44_gap.md R203, which the spec derives from R201). -/
def Obligations.SweepSelectsTheFirstGreatest : Prop :=
  ∀ (s : State) (ds : List Word), s.cfg.wf = true → ds.length = 7 →
    s.seqK = 0#3 → s.gapMaxd = 0#32 → s.gapSel = 0#16 → s.gapIdx = 7#3 →
    ∃ t, sweepAll ds s = .next t ∧ t.seqStep = .seg .ge ∧
      (∀ d ∈ ds, d.toNat / 58 ≤ t.gapMaxd.toNat) ∧
      ((t.gapIdx = 7#3 ∧ t.gapSel = 0#16 ∧ t.gapMaxd = 0#32) ∨
        ∃ p d, s.cfg.sweep[t.gapIdx.toNat]? = some p ∧ ds[t.gapIdx.toNat]? = some d ∧
          t.gapSel = p.pulse ∧ t.gapMaxd.toNat = d.toNat / 58 ∧ 0 < d.toNat / 58 ∧
          ∀ (j : Nat) (e : Word), j < t.gapIdx.toNat → ds[j]? = some e → e.toNat / 58 < d.toNat / 58)

/-- GAP.FIND completes at GE: RESULT is the selected pulse, and the code is NO_GAP exactly when the sweep ran and no
point won (44_gap.md R201, R206). -/
def Obligations.GapFindCompletes : Prop :=
  ∀ s : State, s.seqStep = .seg .ge →
    exec .gapFind s = .next (finish (if s.gapPath = .sweep ∧ s.gapIdx = 7#3 then .noGap else .ok)
      { s with result := BitVec.ofNat 32 s.gapSel.toNat })

/-- GAP.PULSE_TO_ANGLE: right, left and the seven sweep pulses map back to their angles, so that the round trip over
the SweepPlan is exact, and every other pulse, 0 among them, is NOT_MAPPABLE (44_gap.md R208; the round trip is R209's,
which the spec derives from R208 and R8). -/
def Obligations.PulseToAngleInvertsTheSweep : Prop :=
  ∀ (s : State) (pulse : Word), s.cfg.wf = true → s.seqStep = .seg .s0 →
    let gives := fun a : Int =>
      exec (.gapPulseToAngle pulse) s = .next (finish .ok { s with result := BitVec.ofInt 32 a })
    (pulse.toNat = s.cfg.pulseRight.toNat → gives s.cfg.angleRight.toInt) ∧
    (pulse.toNat = s.cfg.pulseLeft.toNat → gives (-s.cfg.angleRight.toInt)) ∧
    (∀ (k : Nat) (p : SweepPoint), s.cfg.sweep[k]? = some p → pulse.toNat = p.pulse.toNat → gives p.angle) ∧
    (pulse.toNat ≠ s.cfg.pulseRight.toNat → pulse.toNat ≠ s.cfg.pulseLeft.toNat →
      (∀ (k : Nat) (p : SweepPoint), s.cfg.sweep[k]? = some p → pulse.toNat ≠ p.pulse.toNat) →
      exec (.gapPulseToAngle pulse) s = .next (finish .notMappable s)) ∧
    (pulse = 0#32 → exec (.gapPulseToAngle pulse) s = .next (finish .notMappable s))

/-! ### binary32 -/

/-- Patterns and values agree: every pattern that is no NaN is packed again from its value, every value that binary32 can
hold is read back from the pattern a register takes for it, and the pattern that a register takes for a NaN is a NaN
pattern, whatever the draw (00_scope.md R10; the draw is log entry 3). -/
def Obligations.Binary32PatternsAgree : Prop :=
  (∀ b x : Word, F32.isNanPattern b = false → (F32.ofBits b).toBits x = b) ∧
  (∀ b : Word, F32.ofBits b = .nan ↔ F32.isNanPattern b = true) ∧
  (∀ n : Nat, F32.isNanPattern (F32.nanPattern n) = true) ∧
  ∀ (s : State) (axis : Nat),
    (∀ b : Word, F32.isNanPattern b = false → storeF32 s axis (F32.ofBits b) = b) ∧
    (∀ (neg : Bool) (m : Nat), representable m → F32.ofBits (storeF32 s axis (.fin neg m)) = .fin neg m) ∧
    (∀ neg : Bool, F32.ofBits (storeF32 s axis (.inf neg)) = .inf neg) ∧
    F32.isNanPattern (storeF32 s axis .nan) = true

/-- binary32 arithmetic (00_scope.md R10). Rounding is to nearest, ties to even, and to infinity from half an ulp above
the greatest finite value on; each operation on numbers is the exact result rounded once; the zeros, the infinities and
the NaN follow IEEE 754; the conversion of an integer below 2^24 in magnitude is exact. A number is ±mag × 2^-149. -/
def Obligations.Binary32RoundsToNearestEven : Prop :=
  (∀ (neg : Bool) (n d : Nat), 0 < d →
    (∀ (s : Bool) (m : Nat), F32.round neg n d = .fin s m →
      s = neg ∧ representable m ∧ (∀ m', representable m' → offBy n d m ≤ offBy n d m') ∧
      (∀ m', representable m' → m' ≠ m → offBy n d m = offBy n d m' → F32.magBits m % 2 = 0)) ∧
    (2 * n < (2 ^ 25 - 1) * 2 ^ 253 * d → ∃ m, F32.round neg n d = .fin neg m) ∧
    ((2 ^ 25 - 1) * 2 ^ 253 * d ≤ 2 * n → F32.round neg n d = .inf neg)) ∧
  (∀ i : Int, i.natAbs < 2 ^ 24 → F32.ofInt i = .fin (decide (i < 0)) (i.natAbs * 2 ^ 149)) ∧
  (∀ (s t : Bool) (m n : Nat),
    (let z := signed s m + signed t n
     (F32.fin s m).add (.fin t n) = if z = 0 then .fin (s && t) 0 else F32.round (decide (z < 0)) z.natAbs 1) ∧
    (let z := signed s m - signed t n
     (F32.fin s m).sub (.fin t n) = if z = 0 then .fin (s && !t) 0 else F32.round (decide (z < 0)) z.natAbs 1) ∧
    (F32.fin s m).mul (.fin t n) = F32.round (s != t) (m * n) (2 ^ 149) ∧
    (F32.fin s m).div (.fin t n) =
      if n ≠ 0 then F32.round (s != t) (m * 2 ^ 149) n else if m ≠ 0 then .inf (s != t) else .nan) ∧
  (∀ (s t : Bool) (m : Nat),
    ((F32.inf s).add (.fin t m) = .inf s ∧ (F32.fin t m).add (.inf s) = .inf s ∧
      (F32.inf s).add (.inf t) = if s = t then .inf s else .nan) ∧
    ((F32.inf s).sub (.fin t m) = .inf s ∧ (F32.fin t m).sub (.inf s) = .inf (!s) ∧
      (F32.inf s).sub (.inf t) = if s = t then .nan else .inf s) ∧
    ((F32.inf s).mul (.fin t m) = (if m = 0 then .nan else .inf (s != t)) ∧
      (F32.fin t m).mul (.inf s) = (if m = 0 then .nan else .inf (s != t)) ∧
      (F32.inf s).mul (.inf t) = .inf (s != t)) ∧
    ((F32.inf s).div (.fin t m) = .inf (s != t) ∧ (F32.fin t m).div (.inf s) = .fin (s != t) 0 ∧
      (F32.inf s).div (.inf t) = .nan)) ∧
  ∀ op ∈ [F32.add, F32.sub, F32.mul, F32.div], ∀ v : F32, op .nan v = .nan ∧ op v .nan = .nan

/-- Doubling dt doubles the increment exactly (42_heading.md R158, which the spec derives from R155 and R10): for a zero
rate, and for a product whose exact magnitude is at least 2^-126 less a quarter of the least subnormal and whose rounding
is finite. R158 asks that the increment be no subnormal; the premise is on the exact product, because an increment that
rounds up to 2^-126 from further below, or down to zero, need not double (log entry 11). -/
def Obligations.DoubledStepDoublesTheIncrement : Prop :=
  ∀ (rate : F32) (dt : Word) (r u w : Bool) (m k p : Nat),
    rate = .fin r m → F32.ofBits dt = .fin u k → 2 ^ 23 ≤ 2 * k → 2 * k < F32.limit →
    m = 0 ∨ (2 ^ 25 - 1) * 2 ^ 149 ≤ 4 * (m * k) → rate.mul (F32.ofBits dt) = .fin w p →
    rate.mul ((F32.ofInt 2).mul (F32.ofBits dt)) = (F32.ofInt 2).mul (rate.mul (F32.ofBits dt))
end

