-- ==== Sys2Proof/Laws/Decode.lean ====
section
/-!
SUPPORT. The fields of a command word as numbers, and the words that a command is encoded by (30_encoding.md R80 to
R83).
-/

namespace Sys2Proof

theorem commandWord_toNat (op arg : Word) : (commandWord op arg).toNat = op.toNat * 2 ^ 32 + arg.toNat := by
  have h : (commandWord op arg).toNat = op.toNat <<< 32 ||| arg.toNat := BitVec.toNat_append op arg
  rw [h, ← Nat.shiftLeft_add_eq_or_of_lt arg.isLt, Nat.shiftLeft_eq]

theorem opcOf_toNat (w : CommandWord) : (opcOf w).toNat = w.toNat / 2 ^ 56 % 2 ^ 8 := by
  simp [opcOf, Nat.shiftRight_eq_div_pow]

theorem rsvOf_toNat (w : CommandWord) : (rsvOf w).toNat = w.toNat / 2 ^ 32 % 2 ^ 24 := by
  simp [rsvOf, Nat.shiftRight_eq_div_pow]

theorem argOf_toNat (w : CommandWord) : (argOf w).toNat = w.toNat % 2 ^ 32 := by
  simp [argOf]

@[simp] theorem opcOf_commandWord (op arg : Word) : opcOf (commandWord op arg) = op.extractLsb' 24 8 := by
  apply BitVec.eq_of_toNat_eq
  rw [opcOf_toNat, commandWord_toNat, BitVec.extractLsb'_toNat, Nat.shiftRight_eq_div_pow]
  have := arg.isLt
  omega

@[simp] theorem rsvOf_commandWord (op arg : Word) : rsvOf (commandWord op arg) = op.extractLsb' 0 24 := by
  apply BitVec.eq_of_toNat_eq
  rw [rsvOf_toNat, commandWord_toNat, BitVec.extractLsb'_toNat, Nat.shiftRight_eq_div_pow]
  have := arg.isLt
  omega

@[simp] theorem argOf_commandWord (op arg : Word) : argOf (commandWord op arg) = arg := by
  apply BitVec.eq_of_toNat_eq
  rw [argOf_toNat, commandWord_toNat]
  have := arg.isLt
  omega

/-- A command word is put together again from its halves. -/
theorem commandWord_halves (w : CommandWord) : commandWord (w.extractLsb' 32 32) (argOf w) = w := by
  apply BitVec.eq_of_toNat_eq
  rw [commandWord_toNat, argOf_toNat, BitVec.extractLsb'_toNat, Nat.shiftRight_eq_div_pow]
  have := w.isLt
  omega

theorem Instr.cmdOp_toNat (i : Instr) : i.cmdOp.toNat = i.opc.toNat * 2 ^ 24 := by
  have h : i.cmdOp.toNat = i.opc.toNat <<< 24 ||| (0#24).toNat := BitVec.toNat_append i.opc 0#24
  rw [h, ← Nat.shiftLeft_add_eq_or_of_lt (0#24).isLt, Nat.shiftLeft_eq]
  simp

@[simp] theorem Instr.cmdOp_opc (i : Instr) : i.cmdOp.extractLsb' 24 8 = i.opc := by
  apply BitVec.eq_of_toNat_eq
  rw [BitVec.extractLsb'_toNat, Instr.cmdOp_toNat, Nat.shiftRight_eq_div_pow]
  have := i.opc.isLt
  omega

@[simp] theorem Instr.cmdOp_rsv (i : Instr) : i.cmdOp.extractLsb' 0 24 = 0#24 := by
  apply BitVec.eq_of_toNat_eq
  rw [BitVec.extractLsb'_toNat, Instr.cmdOp_toNat, Nat.shiftRight_eq_div_pow]
  simp

theorem Instr.arg_echo_toNat (tc : Byte) (ovf : Half) :
    (Instr.echoConvert tc ovf).arg.toNat = ovf.toNat * 2 ^ 8 + tc.toNat := by
  have h : (Instr.echoConvert tc ovf).arg.toNat = (0#8 ++ ovf).toNat <<< 8 ||| tc.toNat :=
    BitVec.toNat_append (0#8 ++ ovf) tc
  rw [h, ← Nat.shiftLeft_add_eq_or_of_lt tc.isLt, Nat.shiftLeft_eq, BitVec.toNat_append]
  simp

@[simp] theorem echoCount_arg (tc : Byte) (ovf : Half) : echoCount (Instr.echoConvert tc ovf).arg = tc := by
  apply BitVec.eq_of_toNat_eq
  rw [echoCount, BitVec.extractLsb'_toNat, Instr.arg_echo_toNat, Nat.shiftRight_eq_div_pow]
  have := tc.isLt
  omega

@[simp] theorem echoOverflow_arg (tc : Byte) (ovf : Half) : echoOverflow (Instr.echoConvert tc ovf).arg = ovf := by
  apply BitVec.eq_of_toNat_eq
  rw [echoOverflow, BitVec.extractLsb'_toNat, Instr.arg_echo_toNat, Nat.shiftRight_eq_div_pow]
  have h1 := tc.isLt
  have h2 := ovf.isLt
  omega

end Sys2Proof
end

