-- ==== Sys2Proof/Laws/State.lean ====
section
/-!
SUPPORT. One lemma per field for each unconditional update of State, so that no proof unfolds a record update.
-/

namespace Sys2Proof.Machine

section
variable (s : State) (c : Code)
@[simp] theorem finish_cfg : (finish c s).cfg = s.cfg := rfl
@[simp] theorem finish_tcnt : (finish c s).tcnt = s.tcnt := rfl
@[simp] theorem finish_ovf : (finish c s).ovf = s.ovf := rfl
@[simp] theorem finish_trun : (finish c s).trun = s.trun := rfl
@[simp] theorem finish_phase : (finish c s).phase = s.phase := rfl
@[simp] theorem finish_echoSync : (finish c s).echoSync = s.echoSync := rfl
@[simp] theorem finish_echoNew : (finish c s).echoNew = s.echoNew := rfl
@[simp] theorem finish_duration : (finish c s).duration = s.duration := rfl
@[simp] theorem finish_dist : (finish c s).dist = s.dist := rfl
@[simp] theorem finish_trigCnt : (finish c s).trigCnt = s.trigCnt := rfl
@[simp] theorem finish_gyroSens : (finish c s).gyroSens = s.gyroSens := rfl
@[simp] theorem finish_gyroRange : (finish c s).gyroRange = s.gyroRange := rfl
@[simp] theorem finish_initOk : (finish c s).initOk = s.initOk := rfl
@[simp] theorem finish_calDone : (finish c s).calDone = s.calDone := rfl
@[simp] theorem finish_gyroOffX : (finish c s).gyroOffX = s.gyroOffX := rfl
@[simp] theorem finish_gyroOffY : (finish c s).gyroOffY = s.gyroOffY := rfl
@[simp] theorem finish_gyroOffZ : (finish c s).gyroOffZ = s.gyroOffZ := rfl
@[simp] theorem finish_headRoll : (finish c s).headRoll = s.headRoll := rfl
@[simp] theorem finish_headPitch : (finish c s).headPitch = s.headPitch := rfl
@[simp] theorem finish_headYaw : (finish c s).headYaw = s.headYaw := rfl
@[simp] theorem finish_servoPulse : (finish c s).servoPulse = s.servoPulse := rfl
@[simp] theorem finish_pwmWr : (finish c s).pwmWr = s.pwmWr := rfl
@[simp] theorem finish_pwmWrites : (finish c s).pwmWrites = s.pwmWrites := rfl
@[simp] theorem finish_gapSel : (finish c s).gapSel = s.gapSel := rfl
@[simp] theorem finish_gapMaxd : (finish c s).gapMaxd = s.gapMaxd := rfl
@[simp] theorem finish_gapPath : (finish c s).gapPath = s.gapPath := rfl
@[simp] theorem finish_gapIdx : (finish c s).gapIdx = s.gapIdx := rfl
@[simp] theorem finish_gapStaleAny : (finish c s).gapStaleAny = s.gapStaleAny := rfl
@[simp] theorem finish_seqK : (finish c s).seqK = s.seqK := rfl
@[simp] theorem finish_cmdArg : (finish c s).cmdArg = s.cmdArg := rfl
@[simp] theorem finish_cmdOp : (finish c s).cmdOp = s.cmdOp := rfl
@[simp] theorem finish_curOp : (finish c s).curOp = s.curOp := rfl
@[simp] theorem finish_curArg : (finish c s).curArg = s.curArg := rfl
@[simp] theorem finish_busy : (finish c s).busy = false := rfl
@[simp] theorem finish_code : (finish c s).code = c := rfl
@[simp] theorem finish_cfgFatal : (finish c s).cfgFatal = s.cfgFatal := rfl
@[simp] theorem finish_ovr : (finish c s).ovr = s.ovr := rfl
@[simp] theorem finish_lastOpc : (finish c s).lastOpc = s.curOp.extractLsb' 24 8 := rfl
@[simp] theorem finish_result : (finish c s).result = s.result := rfl
@[simp] theorem finish_seqStep : (finish c s).seqStep = .idle := rfl
@[simp] theorem finish_seqWait : (finish c s).seqWait = 0#32 := rfl
@[simp] theorem finish_seqI : (finish c s).seqI = s.seqI := rfl
@[simp] theorem finish_calSumX : (finish c s).calSumX = s.calSumX := rfl
@[simp] theorem finish_calSumY : (finish c s).calSumY = s.calSumY := rfl
@[simp] theorem finish_calSumZ : (finish c s).calSumZ = s.calSumZ := rfl
@[simp] theorem finish_busPend : (finish c s).busPend = s.busPend := rfl
@[simp] theorem finish_greq : (finish c s).greq = s.greq := rfl
@[simp] theorem finish_hostRData : (finish c s).hostRData = s.hostRData := rfl
@[simp] theorem finish_busRsp : (finish c s).busRsp = s.busRsp := rfl
@[simp] theorem finish_script : (finish c s).script = s.script := rfl
@[simp] theorem finish_cycle : (finish c s).cycle = s.cycle := rfl
end

section
variable (s : State) (n : Nat) (l : Seg)
@[simp] theorem waitThen_cfg : (waitThen n l s).cfg = s.cfg := rfl
@[simp] theorem waitThen_tcnt : (waitThen n l s).tcnt = s.tcnt := rfl
@[simp] theorem waitThen_ovf : (waitThen n l s).ovf = s.ovf := rfl
@[simp] theorem waitThen_trun : (waitThen n l s).trun = s.trun := rfl
@[simp] theorem waitThen_phase : (waitThen n l s).phase = s.phase := rfl
@[simp] theorem waitThen_echoSync : (waitThen n l s).echoSync = s.echoSync := rfl
@[simp] theorem waitThen_echoNew : (waitThen n l s).echoNew = s.echoNew := rfl
@[simp] theorem waitThen_duration : (waitThen n l s).duration = s.duration := rfl
@[simp] theorem waitThen_dist : (waitThen n l s).dist = s.dist := rfl
@[simp] theorem waitThen_trigCnt : (waitThen n l s).trigCnt = s.trigCnt := rfl
@[simp] theorem waitThen_gyroSens : (waitThen n l s).gyroSens = s.gyroSens := rfl
@[simp] theorem waitThen_gyroRange : (waitThen n l s).gyroRange = s.gyroRange := rfl
@[simp] theorem waitThen_initOk : (waitThen n l s).initOk = s.initOk := rfl
@[simp] theorem waitThen_calDone : (waitThen n l s).calDone = s.calDone := rfl
@[simp] theorem waitThen_gyroOffX : (waitThen n l s).gyroOffX = s.gyroOffX := rfl
@[simp] theorem waitThen_gyroOffY : (waitThen n l s).gyroOffY = s.gyroOffY := rfl
@[simp] theorem waitThen_gyroOffZ : (waitThen n l s).gyroOffZ = s.gyroOffZ := rfl
@[simp] theorem waitThen_headRoll : (waitThen n l s).headRoll = s.headRoll := rfl
@[simp] theorem waitThen_headPitch : (waitThen n l s).headPitch = s.headPitch := rfl
@[simp] theorem waitThen_headYaw : (waitThen n l s).headYaw = s.headYaw := rfl
@[simp] theorem waitThen_servoPulse : (waitThen n l s).servoPulse = s.servoPulse := rfl
@[simp] theorem waitThen_pwmWr : (waitThen n l s).pwmWr = s.pwmWr := rfl
@[simp] theorem waitThen_pwmWrites : (waitThen n l s).pwmWrites = s.pwmWrites := rfl
@[simp] theorem waitThen_gapSel : (waitThen n l s).gapSel = s.gapSel := rfl
@[simp] theorem waitThen_gapMaxd : (waitThen n l s).gapMaxd = s.gapMaxd := rfl
@[simp] theorem waitThen_gapPath : (waitThen n l s).gapPath = s.gapPath := rfl
@[simp] theorem waitThen_gapIdx : (waitThen n l s).gapIdx = s.gapIdx := rfl
@[simp] theorem waitThen_gapStaleAny : (waitThen n l s).gapStaleAny = s.gapStaleAny := rfl
@[simp] theorem waitThen_seqK : (waitThen n l s).seqK = s.seqK := rfl
@[simp] theorem waitThen_cmdArg : (waitThen n l s).cmdArg = s.cmdArg := rfl
@[simp] theorem waitThen_cmdOp : (waitThen n l s).cmdOp = s.cmdOp := rfl
@[simp] theorem waitThen_curOp : (waitThen n l s).curOp = s.curOp := rfl
@[simp] theorem waitThen_curArg : (waitThen n l s).curArg = s.curArg := rfl
@[simp] theorem waitThen_busy : (waitThen n l s).busy = s.busy := rfl
@[simp] theorem waitThen_code : (waitThen n l s).code = s.code := rfl
@[simp] theorem waitThen_cfgFatal : (waitThen n l s).cfgFatal = s.cfgFatal := rfl
@[simp] theorem waitThen_ovr : (waitThen n l s).ovr = s.ovr := rfl
@[simp] theorem waitThen_lastOpc : (waitThen n l s).lastOpc = s.lastOpc := rfl
@[simp] theorem waitThen_result : (waitThen n l s).result = s.result := rfl
@[simp] theorem waitThen_seqStep : (waitThen n l s).seqStep = .seg l := rfl
@[simp] theorem waitThen_seqWait : (waitThen n l s).seqWait = BitVec.ofNat 32 (n - 1) := rfl
@[simp] theorem waitThen_seqI : (waitThen n l s).seqI = s.seqI := rfl
@[simp] theorem waitThen_calSumX : (waitThen n l s).calSumX = s.calSumX := rfl
@[simp] theorem waitThen_calSumY : (waitThen n l s).calSumY = s.calSumY := rfl
@[simp] theorem waitThen_calSumZ : (waitThen n l s).calSumZ = s.calSumZ := rfl
@[simp] theorem waitThen_busPend : (waitThen n l s).busPend = s.busPend := rfl
@[simp] theorem waitThen_greq : (waitThen n l s).greq = s.greq := rfl
@[simp] theorem waitThen_hostRData : (waitThen n l s).hostRData = s.hostRData := rfl
@[simp] theorem waitThen_busRsp : (waitThen n l s).busRsp = s.busRsp := rfl
@[simp] theorem waitThen_script : (waitThen n l s).script = s.script := rfl
@[simp] theorem waitThen_cycle : (waitThen n l s).cycle = s.cycle := rfl
end

section
variable (s : State) (g v : Byte) (l : Seg)
@[simp] theorem busWrite_cfg : (busWrite g v l s).cfg = s.cfg := rfl
@[simp] theorem busWrite_tcnt : (busWrite g v l s).tcnt = s.tcnt := rfl
@[simp] theorem busWrite_ovf : (busWrite g v l s).ovf = s.ovf := rfl
@[simp] theorem busWrite_trun : (busWrite g v l s).trun = s.trun := rfl
@[simp] theorem busWrite_phase : (busWrite g v l s).phase = s.phase := rfl
@[simp] theorem busWrite_echoSync : (busWrite g v l s).echoSync = s.echoSync := rfl
@[simp] theorem busWrite_echoNew : (busWrite g v l s).echoNew = s.echoNew := rfl
@[simp] theorem busWrite_duration : (busWrite g v l s).duration = s.duration := rfl
@[simp] theorem busWrite_dist : (busWrite g v l s).dist = s.dist := rfl
@[simp] theorem busWrite_trigCnt : (busWrite g v l s).trigCnt = s.trigCnt := rfl
@[simp] theorem busWrite_gyroSens : (busWrite g v l s).gyroSens = s.gyroSens := rfl
@[simp] theorem busWrite_gyroRange : (busWrite g v l s).gyroRange = s.gyroRange := rfl
@[simp] theorem busWrite_initOk : (busWrite g v l s).initOk = s.initOk := rfl
@[simp] theorem busWrite_calDone : (busWrite g v l s).calDone = s.calDone := rfl
@[simp] theorem busWrite_gyroOffX : (busWrite g v l s).gyroOffX = s.gyroOffX := rfl
@[simp] theorem busWrite_gyroOffY : (busWrite g v l s).gyroOffY = s.gyroOffY := rfl
@[simp] theorem busWrite_gyroOffZ : (busWrite g v l s).gyroOffZ = s.gyroOffZ := rfl
@[simp] theorem busWrite_headRoll : (busWrite g v l s).headRoll = s.headRoll := rfl
@[simp] theorem busWrite_headPitch : (busWrite g v l s).headPitch = s.headPitch := rfl
@[simp] theorem busWrite_headYaw : (busWrite g v l s).headYaw = s.headYaw := rfl
@[simp] theorem busWrite_servoPulse : (busWrite g v l s).servoPulse = s.servoPulse := rfl
@[simp] theorem busWrite_pwmWr : (busWrite g v l s).pwmWr = s.pwmWr := rfl
@[simp] theorem busWrite_pwmWrites : (busWrite g v l s).pwmWrites = s.pwmWrites := rfl
@[simp] theorem busWrite_gapSel : (busWrite g v l s).gapSel = s.gapSel := rfl
@[simp] theorem busWrite_gapMaxd : (busWrite g v l s).gapMaxd = s.gapMaxd := rfl
@[simp] theorem busWrite_gapPath : (busWrite g v l s).gapPath = s.gapPath := rfl
@[simp] theorem busWrite_gapIdx : (busWrite g v l s).gapIdx = s.gapIdx := rfl
@[simp] theorem busWrite_gapStaleAny : (busWrite g v l s).gapStaleAny = s.gapStaleAny := rfl
@[simp] theorem busWrite_seqK : (busWrite g v l s).seqK = s.seqK := rfl
@[simp] theorem busWrite_cmdArg : (busWrite g v l s).cmdArg = s.cmdArg := rfl
@[simp] theorem busWrite_cmdOp : (busWrite g v l s).cmdOp = s.cmdOp := rfl
@[simp] theorem busWrite_curOp : (busWrite g v l s).curOp = s.curOp := rfl
@[simp] theorem busWrite_curArg : (busWrite g v l s).curArg = s.curArg := rfl
@[simp] theorem busWrite_busy : (busWrite g v l s).busy = s.busy := rfl
@[simp] theorem busWrite_code : (busWrite g v l s).code = s.code := rfl
@[simp] theorem busWrite_cfgFatal : (busWrite g v l s).cfgFatal = s.cfgFatal := rfl
@[simp] theorem busWrite_ovr : (busWrite g v l s).ovr = s.ovr := rfl
@[simp] theorem busWrite_lastOpc : (busWrite g v l s).lastOpc = s.lastOpc := rfl
@[simp] theorem busWrite_result : (busWrite g v l s).result = s.result := rfl
@[simp] theorem busWrite_seqStep : (busWrite g v l s).seqStep = .seg l := rfl
@[simp] theorem busWrite_seqWait : (busWrite g v l s).seqWait = s.seqWait := rfl
@[simp] theorem busWrite_seqI : (busWrite g v l s).seqI = s.seqI := rfl
@[simp] theorem busWrite_calSumX : (busWrite g v l s).calSumX = s.calSumX := rfl
@[simp] theorem busWrite_calSumY : (busWrite g v l s).calSumY = s.calSumY := rfl
@[simp] theorem busWrite_calSumZ : (busWrite g v l s).calSumZ = s.calSumZ := rfl
@[simp] theorem busWrite_busPend : (busWrite g v l s).busPend = some .write := rfl
@[simp] theorem busWrite_greq : (busWrite g v l s).greq = some { kind := .write, dev := s.cfg.gyroDev.setWidth 7, reg := g, data := v, count := 0#8 } := rfl
@[simp] theorem busWrite_hostRData : (busWrite g v l s).hostRData = s.hostRData := rfl
@[simp] theorem busWrite_busRsp : (busWrite g v l s).busRsp = s.busRsp := rfl
@[simp] theorem busWrite_script : (busWrite g v l s).script = s.script := rfl
@[simp] theorem busWrite_cycle : (busWrite g v l s).cycle = s.cycle := rfl
end

section
variable (s : State) (l : Seg)
@[simp] theorem busRead_cfg : (busRead l s).cfg = s.cfg := rfl
@[simp] theorem busRead_tcnt : (busRead l s).tcnt = s.tcnt := rfl
@[simp] theorem busRead_ovf : (busRead l s).ovf = s.ovf := rfl
@[simp] theorem busRead_trun : (busRead l s).trun = s.trun := rfl
@[simp] theorem busRead_phase : (busRead l s).phase = s.phase := rfl
@[simp] theorem busRead_echoSync : (busRead l s).echoSync = s.echoSync := rfl
@[simp] theorem busRead_echoNew : (busRead l s).echoNew = s.echoNew := rfl
@[simp] theorem busRead_duration : (busRead l s).duration = s.duration := rfl
@[simp] theorem busRead_dist : (busRead l s).dist = s.dist := rfl
@[simp] theorem busRead_trigCnt : (busRead l s).trigCnt = s.trigCnt := rfl
@[simp] theorem busRead_gyroSens : (busRead l s).gyroSens = s.gyroSens := rfl
@[simp] theorem busRead_gyroRange : (busRead l s).gyroRange = s.gyroRange := rfl
@[simp] theorem busRead_initOk : (busRead l s).initOk = s.initOk := rfl
@[simp] theorem busRead_calDone : (busRead l s).calDone = s.calDone := rfl
@[simp] theorem busRead_gyroOffX : (busRead l s).gyroOffX = s.gyroOffX := rfl
@[simp] theorem busRead_gyroOffY : (busRead l s).gyroOffY = s.gyroOffY := rfl
@[simp] theorem busRead_gyroOffZ : (busRead l s).gyroOffZ = s.gyroOffZ := rfl
@[simp] theorem busRead_headRoll : (busRead l s).headRoll = s.headRoll := rfl
@[simp] theorem busRead_headPitch : (busRead l s).headPitch = s.headPitch := rfl
@[simp] theorem busRead_headYaw : (busRead l s).headYaw = s.headYaw := rfl
@[simp] theorem busRead_servoPulse : (busRead l s).servoPulse = s.servoPulse := rfl
@[simp] theorem busRead_pwmWr : (busRead l s).pwmWr = s.pwmWr := rfl
@[simp] theorem busRead_pwmWrites : (busRead l s).pwmWrites = s.pwmWrites := rfl
@[simp] theorem busRead_gapSel : (busRead l s).gapSel = s.gapSel := rfl
@[simp] theorem busRead_gapMaxd : (busRead l s).gapMaxd = s.gapMaxd := rfl
@[simp] theorem busRead_gapPath : (busRead l s).gapPath = s.gapPath := rfl
@[simp] theorem busRead_gapIdx : (busRead l s).gapIdx = s.gapIdx := rfl
@[simp] theorem busRead_gapStaleAny : (busRead l s).gapStaleAny = s.gapStaleAny := rfl
@[simp] theorem busRead_seqK : (busRead l s).seqK = s.seqK := rfl
@[simp] theorem busRead_cmdArg : (busRead l s).cmdArg = s.cmdArg := rfl
@[simp] theorem busRead_cmdOp : (busRead l s).cmdOp = s.cmdOp := rfl
@[simp] theorem busRead_curOp : (busRead l s).curOp = s.curOp := rfl
@[simp] theorem busRead_curArg : (busRead l s).curArg = s.curArg := rfl
@[simp] theorem busRead_busy : (busRead l s).busy = s.busy := rfl
@[simp] theorem busRead_code : (busRead l s).code = s.code := rfl
@[simp] theorem busRead_cfgFatal : (busRead l s).cfgFatal = s.cfgFatal := rfl
@[simp] theorem busRead_ovr : (busRead l s).ovr = s.ovr := rfl
@[simp] theorem busRead_lastOpc : (busRead l s).lastOpc = s.lastOpc := rfl
@[simp] theorem busRead_result : (busRead l s).result = s.result := rfl
@[simp] theorem busRead_seqStep : (busRead l s).seqStep = .seg l := rfl
@[simp] theorem busRead_seqWait : (busRead l s).seqWait = s.seqWait := rfl
@[simp] theorem busRead_seqI : (busRead l s).seqI = s.seqI := rfl
@[simp] theorem busRead_calSumX : (busRead l s).calSumX = s.calSumX := rfl
@[simp] theorem busRead_calSumY : (busRead l s).calSumY = s.calSumY := rfl
@[simp] theorem busRead_calSumZ : (busRead l s).calSumZ = s.calSumZ := rfl
@[simp] theorem busRead_busPend : (busRead l s).busPend = some .read := rfl
@[simp] theorem busRead_greq : (busRead l s).greq = some { kind := .read, dev := s.cfg.gyroDev.setWidth 7, reg := s.cfg.gyroDataReg, data := 0#8, count := rateBytes } := rfl
@[simp] theorem busRead_hostRData : (busRead l s).hostRData = s.hostRData := rfl
@[simp] theorem busRead_busRsp : (busRead l s).busRsp = s.busRsp := rfl
@[simp] theorem busRead_script : (busRead l s).script = s.script := rfl
@[simp] theorem busRead_cycle : (busRead l s).cycle = s.cycle := rfl
end

section
variable (s : State) (l : Seg)
@[simp] theorem measureStart_cfg : (measureStart l s).cfg = s.cfg := rfl
@[simp] theorem measureStart_tcnt : (measureStart l s).tcnt = s.tcnt := rfl
@[simp] theorem measureStart_ovf : (measureStart l s).ovf = s.ovf := rfl
@[simp] theorem measureStart_trun : (measureStart l s).trun = s.trun := rfl
@[simp] theorem measureStart_phase : (measureStart l s).phase = s.phase := rfl
@[simp] theorem measureStart_echoSync : (measureStart l s).echoSync = s.echoSync := rfl
@[simp] theorem measureStart_echoNew : (measureStart l s).echoNew = false := rfl
@[simp] theorem measureStart_duration : (measureStart l s).duration = s.duration := rfl
@[simp] theorem measureStart_dist : (measureStart l s).dist = s.dist := rfl
@[simp] theorem measureStart_trigCnt : (measureStart l s).trigCnt = 20#8 := rfl
@[simp] theorem measureStart_gyroSens : (measureStart l s).gyroSens = s.gyroSens := rfl
@[simp] theorem measureStart_gyroRange : (measureStart l s).gyroRange = s.gyroRange := rfl
@[simp] theorem measureStart_initOk : (measureStart l s).initOk = s.initOk := rfl
@[simp] theorem measureStart_calDone : (measureStart l s).calDone = s.calDone := rfl
@[simp] theorem measureStart_gyroOffX : (measureStart l s).gyroOffX = s.gyroOffX := rfl
@[simp] theorem measureStart_gyroOffY : (measureStart l s).gyroOffY = s.gyroOffY := rfl
@[simp] theorem measureStart_gyroOffZ : (measureStart l s).gyroOffZ = s.gyroOffZ := rfl
@[simp] theorem measureStart_headRoll : (measureStart l s).headRoll = s.headRoll := rfl
@[simp] theorem measureStart_headPitch : (measureStart l s).headPitch = s.headPitch := rfl
@[simp] theorem measureStart_headYaw : (measureStart l s).headYaw = s.headYaw := rfl
@[simp] theorem measureStart_servoPulse : (measureStart l s).servoPulse = s.servoPulse := rfl
@[simp] theorem measureStart_pwmWr : (measureStart l s).pwmWr = s.pwmWr := rfl
@[simp] theorem measureStart_pwmWrites : (measureStart l s).pwmWrites = s.pwmWrites := rfl
@[simp] theorem measureStart_gapSel : (measureStart l s).gapSel = s.gapSel := rfl
@[simp] theorem measureStart_gapMaxd : (measureStart l s).gapMaxd = s.gapMaxd := rfl
@[simp] theorem measureStart_gapPath : (measureStart l s).gapPath = s.gapPath := rfl
@[simp] theorem measureStart_gapIdx : (measureStart l s).gapIdx = s.gapIdx := rfl
@[simp] theorem measureStart_gapStaleAny : (measureStart l s).gapStaleAny = s.gapStaleAny := rfl
@[simp] theorem measureStart_seqK : (measureStart l s).seqK = s.seqK := rfl
@[simp] theorem measureStart_cmdArg : (measureStart l s).cmdArg = s.cmdArg := rfl
@[simp] theorem measureStart_cmdOp : (measureStart l s).cmdOp = s.cmdOp := rfl
@[simp] theorem measureStart_curOp : (measureStart l s).curOp = s.curOp := rfl
@[simp] theorem measureStart_curArg : (measureStart l s).curArg = s.curArg := rfl
@[simp] theorem measureStart_busy : (measureStart l s).busy = s.busy := rfl
@[simp] theorem measureStart_code : (measureStart l s).code = s.code := rfl
@[simp] theorem measureStart_cfgFatal : (measureStart l s).cfgFatal = s.cfgFatal := rfl
@[simp] theorem measureStart_ovr : (measureStart l s).ovr = s.ovr := rfl
@[simp] theorem measureStart_lastOpc : (measureStart l s).lastOpc = s.lastOpc := rfl
@[simp] theorem measureStart_result : (measureStart l s).result = s.result := rfl
@[simp] theorem measureStart_seqStep : (measureStart l s).seqStep = .seg l := rfl
@[simp] theorem measureStart_seqWait : (measureStart l s).seqWait = 40019#32 := rfl
@[simp] theorem measureStart_seqI : (measureStart l s).seqI = s.seqI := rfl
@[simp] theorem measureStart_calSumX : (measureStart l s).calSumX = s.calSumX := rfl
@[simp] theorem measureStart_calSumY : (measureStart l s).calSumY = s.calSumY := rfl
@[simp] theorem measureStart_calSumZ : (measureStart l s).calSumZ = s.calSumZ := rfl
@[simp] theorem measureStart_busPend : (measureStart l s).busPend = s.busPend := rfl
@[simp] theorem measureStart_greq : (measureStart l s).greq = s.greq := rfl
@[simp] theorem measureStart_hostRData : (measureStart l s).hostRData = s.hostRData := rfl
@[simp] theorem measureStart_busRsp : (measureStart l s).busRsp = s.busRsp := rfl
@[simp] theorem measureStart_script : (measureStart l s).script = s.script := rfl
@[simp] theorem measureStart_cycle : (measureStart l s).cycle = s.cycle := rfl
end

section
variable (s : State)
@[simp] theorem measureEnd_cfg : (measureEnd s).cfg = s.cfg := rfl
@[simp] theorem measureEnd_tcnt : (measureEnd s).tcnt = s.tcnt := rfl
@[simp] theorem measureEnd_ovf : (measureEnd s).ovf = s.ovf := rfl
@[simp] theorem measureEnd_trun : (measureEnd s).trun = s.trun := rfl
@[simp] theorem measureEnd_phase : (measureEnd s).phase = s.phase := rfl
@[simp] theorem measureEnd_echoSync : (measureEnd s).echoSync = s.echoSync := rfl
@[simp] theorem measureEnd_echoNew : (measureEnd s).echoNew = s.echoNew := rfl
@[simp] theorem measureEnd_duration : (measureEnd s).duration = s.duration := rfl
@[simp] theorem measureEnd_dist : (measureEnd s).dist = measured s := rfl
@[simp] theorem measureEnd_trigCnt : (measureEnd s).trigCnt = s.trigCnt := rfl
@[simp] theorem measureEnd_gyroSens : (measureEnd s).gyroSens = s.gyroSens := rfl
@[simp] theorem measureEnd_gyroRange : (measureEnd s).gyroRange = s.gyroRange := rfl
@[simp] theorem measureEnd_initOk : (measureEnd s).initOk = s.initOk := rfl
@[simp] theorem measureEnd_calDone : (measureEnd s).calDone = s.calDone := rfl
@[simp] theorem measureEnd_gyroOffX : (measureEnd s).gyroOffX = s.gyroOffX := rfl
@[simp] theorem measureEnd_gyroOffY : (measureEnd s).gyroOffY = s.gyroOffY := rfl
@[simp] theorem measureEnd_gyroOffZ : (measureEnd s).gyroOffZ = s.gyroOffZ := rfl
@[simp] theorem measureEnd_headRoll : (measureEnd s).headRoll = s.headRoll := rfl
@[simp] theorem measureEnd_headPitch : (measureEnd s).headPitch = s.headPitch := rfl
@[simp] theorem measureEnd_headYaw : (measureEnd s).headYaw = s.headYaw := rfl
@[simp] theorem measureEnd_servoPulse : (measureEnd s).servoPulse = s.servoPulse := rfl
@[simp] theorem measureEnd_pwmWr : (measureEnd s).pwmWr = s.pwmWr := rfl
@[simp] theorem measureEnd_pwmWrites : (measureEnd s).pwmWrites = s.pwmWrites := rfl
@[simp] theorem measureEnd_gapSel : (measureEnd s).gapSel = s.gapSel := rfl
@[simp] theorem measureEnd_gapMaxd : (measureEnd s).gapMaxd = s.gapMaxd := rfl
@[simp] theorem measureEnd_gapPath : (measureEnd s).gapPath = s.gapPath := rfl
@[simp] theorem measureEnd_gapIdx : (measureEnd s).gapIdx = s.gapIdx := rfl
@[simp] theorem measureEnd_gapStaleAny : (measureEnd s).gapStaleAny = s.gapStaleAny := rfl
@[simp] theorem measureEnd_seqK : (measureEnd s).seqK = s.seqK := rfl
@[simp] theorem measureEnd_cmdArg : (measureEnd s).cmdArg = s.cmdArg := rfl
@[simp] theorem measureEnd_cmdOp : (measureEnd s).cmdOp = s.cmdOp := rfl
@[simp] theorem measureEnd_curOp : (measureEnd s).curOp = s.curOp := rfl
@[simp] theorem measureEnd_curArg : (measureEnd s).curArg = s.curArg := rfl
@[simp] theorem measureEnd_busy : (measureEnd s).busy = s.busy := rfl
@[simp] theorem measureEnd_code : (measureEnd s).code = s.code := rfl
@[simp] theorem measureEnd_cfgFatal : (measureEnd s).cfgFatal = s.cfgFatal := rfl
@[simp] theorem measureEnd_ovr : (measureEnd s).ovr = s.ovr := rfl
@[simp] theorem measureEnd_lastOpc : (measureEnd s).lastOpc = s.lastOpc := rfl
@[simp] theorem measureEnd_result : (measureEnd s).result = s.result := rfl
@[simp] theorem measureEnd_seqStep : (measureEnd s).seqStep = s.seqStep := rfl
@[simp] theorem measureEnd_seqWait : (measureEnd s).seqWait = s.seqWait := rfl
@[simp] theorem measureEnd_seqI : (measureEnd s).seqI = s.seqI := rfl
@[simp] theorem measureEnd_calSumX : (measureEnd s).calSumX = s.calSumX := rfl
@[simp] theorem measureEnd_calSumY : (measureEnd s).calSumY = s.calSumY := rfl
@[simp] theorem measureEnd_calSumZ : (measureEnd s).calSumZ = s.calSumZ := rfl
@[simp] theorem measureEnd_busPend : (measureEnd s).busPend = s.busPend := rfl
@[simp] theorem measureEnd_greq : (measureEnd s).greq = s.greq := rfl
@[simp] theorem measureEnd_hostRData : (measureEnd s).hostRData = s.hostRData := rfl
@[simp] theorem measureEnd_busRsp : (measureEnd s).busRsp = s.busRsp := rfl
@[simp] theorem measureEnd_script : (measureEnd s).script = s.script := rfl
@[simp] theorem measureEnd_cycle : (measureEnd s).cycle = s.cycle := rfl
end

section
variable (s : State) (op arg : Word)
@[simp] theorem latchCommand_cfg : (latchCommand op arg s).cfg = s.cfg := rfl
@[simp] theorem latchCommand_tcnt : (latchCommand op arg s).tcnt = s.tcnt := rfl
@[simp] theorem latchCommand_ovf : (latchCommand op arg s).ovf = s.ovf := rfl
@[simp] theorem latchCommand_trun : (latchCommand op arg s).trun = s.trun := rfl
@[simp] theorem latchCommand_phase : (latchCommand op arg s).phase = s.phase := rfl
@[simp] theorem latchCommand_echoSync : (latchCommand op arg s).echoSync = s.echoSync := rfl
@[simp] theorem latchCommand_echoNew : (latchCommand op arg s).echoNew = s.echoNew := rfl
@[simp] theorem latchCommand_duration : (latchCommand op arg s).duration = s.duration := rfl
@[simp] theorem latchCommand_dist : (latchCommand op arg s).dist = s.dist := rfl
@[simp] theorem latchCommand_trigCnt : (latchCommand op arg s).trigCnt = s.trigCnt := rfl
@[simp] theorem latchCommand_gyroSens : (latchCommand op arg s).gyroSens = s.gyroSens := rfl
@[simp] theorem latchCommand_gyroRange : (latchCommand op arg s).gyroRange = s.gyroRange := rfl
@[simp] theorem latchCommand_initOk : (latchCommand op arg s).initOk = s.initOk := rfl
@[simp] theorem latchCommand_calDone : (latchCommand op arg s).calDone = s.calDone := rfl
@[simp] theorem latchCommand_gyroOffX : (latchCommand op arg s).gyroOffX = s.gyroOffX := rfl
@[simp] theorem latchCommand_gyroOffY : (latchCommand op arg s).gyroOffY = s.gyroOffY := rfl
@[simp] theorem latchCommand_gyroOffZ : (latchCommand op arg s).gyroOffZ = s.gyroOffZ := rfl
@[simp] theorem latchCommand_headRoll : (latchCommand op arg s).headRoll = s.headRoll := rfl
@[simp] theorem latchCommand_headPitch : (latchCommand op arg s).headPitch = s.headPitch := rfl
@[simp] theorem latchCommand_headYaw : (latchCommand op arg s).headYaw = s.headYaw := rfl
@[simp] theorem latchCommand_servoPulse : (latchCommand op arg s).servoPulse = s.servoPulse := rfl
@[simp] theorem latchCommand_pwmWr : (latchCommand op arg s).pwmWr = s.pwmWr := rfl
@[simp] theorem latchCommand_pwmWrites : (latchCommand op arg s).pwmWrites = s.pwmWrites := rfl
@[simp] theorem latchCommand_gapSel : (latchCommand op arg s).gapSel = s.gapSel := rfl
@[simp] theorem latchCommand_gapMaxd : (latchCommand op arg s).gapMaxd = s.gapMaxd := rfl
@[simp] theorem latchCommand_gapPath : (latchCommand op arg s).gapPath = s.gapPath := rfl
@[simp] theorem latchCommand_gapIdx : (latchCommand op arg s).gapIdx = s.gapIdx := rfl
@[simp] theorem latchCommand_gapStaleAny : (latchCommand op arg s).gapStaleAny = s.gapStaleAny := rfl
@[simp] theorem latchCommand_seqK : (latchCommand op arg s).seqK = s.seqK := rfl
@[simp] theorem latchCommand_cmdArg : (latchCommand op arg s).cmdArg = s.cmdArg := rfl
@[simp] theorem latchCommand_cmdOp : (latchCommand op arg s).cmdOp = s.cmdOp := rfl
@[simp] theorem latchCommand_curOp : (latchCommand op arg s).curOp = op := rfl
@[simp] theorem latchCommand_curArg : (latchCommand op arg s).curArg = arg := rfl
@[simp] theorem latchCommand_busy : (latchCommand op arg s).busy = true := rfl
@[simp] theorem latchCommand_code : (latchCommand op arg s).code = s.code := rfl
@[simp] theorem latchCommand_cfgFatal : (latchCommand op arg s).cfgFatal = s.cfgFatal := rfl
@[simp] theorem latchCommand_ovr : (latchCommand op arg s).ovr = s.ovr := rfl
@[simp] theorem latchCommand_lastOpc : (latchCommand op arg s).lastOpc = s.lastOpc := rfl
@[simp] theorem latchCommand_result : (latchCommand op arg s).result = s.result := rfl
@[simp] theorem latchCommand_seqStep : (latchCommand op arg s).seqStep = .seg .s0 := rfl
@[simp] theorem latchCommand_seqWait : (latchCommand op arg s).seqWait = 0#32 := rfl
@[simp] theorem latchCommand_seqI : (latchCommand op arg s).seqI = s.seqI := rfl
@[simp] theorem latchCommand_calSumX : (latchCommand op arg s).calSumX = s.calSumX := rfl
@[simp] theorem latchCommand_calSumY : (latchCommand op arg s).calSumY = s.calSumY := rfl
@[simp] theorem latchCommand_calSumZ : (latchCommand op arg s).calSumZ = s.calSumZ := rfl
@[simp] theorem latchCommand_busPend : (latchCommand op arg s).busPend = s.busPend := rfl
@[simp] theorem latchCommand_greq : (latchCommand op arg s).greq = s.greq := rfl
@[simp] theorem latchCommand_hostRData : (latchCommand op arg s).hostRData = s.hostRData := rfl
@[simp] theorem latchCommand_busRsp : (latchCommand op arg s).busRsp = s.busRsp := rfl
@[simp] theorem latchCommand_script : (latchCommand op arg s).script = s.script := rfl
@[simp] theorem latchCommand_cycle : (latchCommand op arg s).cycle = s.cycle := rfl
end

section
variable (s : State)
@[simp] theorem beginCycle_cfg : (beginCycle s).cfg = s.cfg := rfl
@[simp] theorem beginCycle_tcnt : (beginCycle s).tcnt = s.tcnt := rfl
@[simp] theorem beginCycle_ovf : (beginCycle s).ovf = s.ovf := rfl
@[simp] theorem beginCycle_trun : (beginCycle s).trun = s.trun := rfl
@[simp] theorem beginCycle_phase : (beginCycle s).phase = s.phase := rfl
@[simp] theorem beginCycle_echoSync : (beginCycle s).echoSync = s.echoSync := rfl
@[simp] theorem beginCycle_echoNew : (beginCycle s).echoNew = s.echoNew := rfl
@[simp] theorem beginCycle_duration : (beginCycle s).duration = s.duration := rfl
@[simp] theorem beginCycle_dist : (beginCycle s).dist = s.dist := rfl
@[simp] theorem beginCycle_trigCnt : (beginCycle s).trigCnt = s.trigCnt := rfl
@[simp] theorem beginCycle_gyroSens : (beginCycle s).gyroSens = s.gyroSens := rfl
@[simp] theorem beginCycle_gyroRange : (beginCycle s).gyroRange = s.gyroRange := rfl
@[simp] theorem beginCycle_initOk : (beginCycle s).initOk = s.initOk := rfl
@[simp] theorem beginCycle_calDone : (beginCycle s).calDone = s.calDone := rfl
@[simp] theorem beginCycle_gyroOffX : (beginCycle s).gyroOffX = s.gyroOffX := rfl
@[simp] theorem beginCycle_gyroOffY : (beginCycle s).gyroOffY = s.gyroOffY := rfl
@[simp] theorem beginCycle_gyroOffZ : (beginCycle s).gyroOffZ = s.gyroOffZ := rfl
@[simp] theorem beginCycle_headRoll : (beginCycle s).headRoll = s.headRoll := rfl
@[simp] theorem beginCycle_headPitch : (beginCycle s).headPitch = s.headPitch := rfl
@[simp] theorem beginCycle_headYaw : (beginCycle s).headYaw = s.headYaw := rfl
@[simp] theorem beginCycle_servoPulse : (beginCycle s).servoPulse = s.servoPulse := rfl
@[simp] theorem beginCycle_pwmWr : (beginCycle s).pwmWr = false := rfl
@[simp] theorem beginCycle_pwmWrites : (beginCycle s).pwmWrites = s.pwmWrites := rfl
@[simp] theorem beginCycle_gapSel : (beginCycle s).gapSel = s.gapSel := rfl
@[simp] theorem beginCycle_gapMaxd : (beginCycle s).gapMaxd = s.gapMaxd := rfl
@[simp] theorem beginCycle_gapPath : (beginCycle s).gapPath = s.gapPath := rfl
@[simp] theorem beginCycle_gapIdx : (beginCycle s).gapIdx = s.gapIdx := rfl
@[simp] theorem beginCycle_gapStaleAny : (beginCycle s).gapStaleAny = s.gapStaleAny := rfl
@[simp] theorem beginCycle_seqK : (beginCycle s).seqK = s.seqK := rfl
@[simp] theorem beginCycle_cmdArg : (beginCycle s).cmdArg = s.cmdArg := rfl
@[simp] theorem beginCycle_cmdOp : (beginCycle s).cmdOp = s.cmdOp := rfl
@[simp] theorem beginCycle_curOp : (beginCycle s).curOp = s.curOp := rfl
@[simp] theorem beginCycle_curArg : (beginCycle s).curArg = s.curArg := rfl
@[simp] theorem beginCycle_busy : (beginCycle s).busy = s.busy := rfl
@[simp] theorem beginCycle_code : (beginCycle s).code = s.code := rfl
@[simp] theorem beginCycle_cfgFatal : (beginCycle s).cfgFatal = s.cfgFatal := rfl
@[simp] theorem beginCycle_ovr : (beginCycle s).ovr = s.ovr := rfl
@[simp] theorem beginCycle_lastOpc : (beginCycle s).lastOpc = s.lastOpc := rfl
@[simp] theorem beginCycle_result : (beginCycle s).result = s.result := rfl
@[simp] theorem beginCycle_seqStep : (beginCycle s).seqStep = s.seqStep := rfl
@[simp] theorem beginCycle_seqWait : (beginCycle s).seqWait = s.seqWait := rfl
@[simp] theorem beginCycle_seqI : (beginCycle s).seqI = s.seqI := rfl
@[simp] theorem beginCycle_calSumX : (beginCycle s).calSumX = s.calSumX := rfl
@[simp] theorem beginCycle_calSumY : (beginCycle s).calSumY = s.calSumY := rfl
@[simp] theorem beginCycle_calSumZ : (beginCycle s).calSumZ = s.calSumZ := rfl
@[simp] theorem beginCycle_busPend : (beginCycle s).busPend = s.busPend := rfl
@[simp] theorem beginCycle_greq : (beginCycle s).greq = none := rfl
@[simp] theorem beginCycle_hostRData : (beginCycle s).hostRData = none := rfl
@[simp] theorem beginCycle_busRsp : (beginCycle s).busRsp = none := rfl
@[simp] theorem beginCycle_script : (beginCycle s).script = s.script.tail := rfl
@[simp] theorem beginCycle_cycle : (beginCycle s).cycle = s.cycle + 1 := rfl
end

end Sys2Proof.Machine
end

