-- ==== Sys2Proof/Laws/Frames.lean ====
section
/-!
SUPPORT. What the conditional operations leave unchanged: one lemma per field that the operation never writes.
-/

namespace Sys2Proof.Machine

section
variable (s : State) (p : Half)
@[simp] theorem servoWrite_cfg : (servoWrite p s).cfg = s.cfg := by unfold servoWrite; split <;> rfl
@[simp] theorem servoWrite_tcnt : (servoWrite p s).tcnt = s.tcnt := by unfold servoWrite; split <;> rfl
@[simp] theorem servoWrite_ovf : (servoWrite p s).ovf = s.ovf := by unfold servoWrite; split <;> rfl
@[simp] theorem servoWrite_trun : (servoWrite p s).trun = s.trun := by unfold servoWrite; split <;> rfl
@[simp] theorem servoWrite_phase : (servoWrite p s).phase = s.phase := by unfold servoWrite; split <;> rfl
@[simp] theorem servoWrite_echoSync : (servoWrite p s).echoSync = s.echoSync := by unfold servoWrite; split <;> rfl
@[simp] theorem servoWrite_echoNew : (servoWrite p s).echoNew = s.echoNew := by unfold servoWrite; split <;> rfl
@[simp] theorem servoWrite_duration : (servoWrite p s).duration = s.duration := by unfold servoWrite; split <;> rfl
@[simp] theorem servoWrite_dist : (servoWrite p s).dist = s.dist := by unfold servoWrite; split <;> rfl
@[simp] theorem servoWrite_trigCnt : (servoWrite p s).trigCnt = s.trigCnt := by unfold servoWrite; split <;> rfl
@[simp] theorem servoWrite_gyroSens : (servoWrite p s).gyroSens = s.gyroSens := by unfold servoWrite; split <;> rfl
@[simp] theorem servoWrite_gyroRange : (servoWrite p s).gyroRange = s.gyroRange := by unfold servoWrite; split <;> rfl
@[simp] theorem servoWrite_initOk : (servoWrite p s).initOk = s.initOk := by unfold servoWrite; split <;> rfl
@[simp] theorem servoWrite_calDone : (servoWrite p s).calDone = s.calDone := by unfold servoWrite; split <;> rfl
@[simp] theorem servoWrite_gyroOffX : (servoWrite p s).gyroOffX = s.gyroOffX := by unfold servoWrite; split <;> rfl
@[simp] theorem servoWrite_gyroOffY : (servoWrite p s).gyroOffY = s.gyroOffY := by unfold servoWrite; split <;> rfl
@[simp] theorem servoWrite_gyroOffZ : (servoWrite p s).gyroOffZ = s.gyroOffZ := by unfold servoWrite; split <;> rfl
@[simp] theorem servoWrite_headRoll : (servoWrite p s).headRoll = s.headRoll := by unfold servoWrite; split <;> rfl
@[simp] theorem servoWrite_headPitch : (servoWrite p s).headPitch = s.headPitch := by unfold servoWrite; split <;> rfl
@[simp] theorem servoWrite_headYaw : (servoWrite p s).headYaw = s.headYaw := by unfold servoWrite; split <;> rfl
@[simp] theorem servoWrite_gapSel : (servoWrite p s).gapSel = s.gapSel := by unfold servoWrite; split <;> rfl
@[simp] theorem servoWrite_gapMaxd : (servoWrite p s).gapMaxd = s.gapMaxd := by unfold servoWrite; split <;> rfl
@[simp] theorem servoWrite_gapPath : (servoWrite p s).gapPath = s.gapPath := by unfold servoWrite; split <;> rfl
@[simp] theorem servoWrite_gapIdx : (servoWrite p s).gapIdx = s.gapIdx := by unfold servoWrite; split <;> rfl
@[simp] theorem servoWrite_gapStaleAny : (servoWrite p s).gapStaleAny = s.gapStaleAny := by unfold servoWrite; split <;> rfl
@[simp] theorem servoWrite_seqK : (servoWrite p s).seqK = s.seqK := by unfold servoWrite; split <;> rfl
@[simp] theorem servoWrite_cmdArg : (servoWrite p s).cmdArg = s.cmdArg := by unfold servoWrite; split <;> rfl
@[simp] theorem servoWrite_cmdOp : (servoWrite p s).cmdOp = s.cmdOp := by unfold servoWrite; split <;> rfl
@[simp] theorem servoWrite_curOp : (servoWrite p s).curOp = s.curOp := by unfold servoWrite; split <;> rfl
@[simp] theorem servoWrite_curArg : (servoWrite p s).curArg = s.curArg := by unfold servoWrite; split <;> rfl
@[simp] theorem servoWrite_busy : (servoWrite p s).busy = s.busy := by unfold servoWrite; split <;> rfl
@[simp] theorem servoWrite_code : (servoWrite p s).code = s.code := by unfold servoWrite; split <;> rfl
@[simp] theorem servoWrite_cfgFatal : (servoWrite p s).cfgFatal = s.cfgFatal := by unfold servoWrite; split <;> rfl
@[simp] theorem servoWrite_ovr : (servoWrite p s).ovr = s.ovr := by unfold servoWrite; split <;> rfl
@[simp] theorem servoWrite_lastOpc : (servoWrite p s).lastOpc = s.lastOpc := by unfold servoWrite; split <;> rfl
@[simp] theorem servoWrite_result : (servoWrite p s).result = s.result := by unfold servoWrite; split <;> rfl
@[simp] theorem servoWrite_seqStep : (servoWrite p s).seqStep = s.seqStep := by unfold servoWrite; split <;> rfl
@[simp] theorem servoWrite_seqWait : (servoWrite p s).seqWait = s.seqWait := by unfold servoWrite; split <;> rfl
@[simp] theorem servoWrite_seqI : (servoWrite p s).seqI = s.seqI := by unfold servoWrite; split <;> rfl
@[simp] theorem servoWrite_calSumX : (servoWrite p s).calSumX = s.calSumX := by unfold servoWrite; split <;> rfl
@[simp] theorem servoWrite_calSumY : (servoWrite p s).calSumY = s.calSumY := by unfold servoWrite; split <;> rfl
@[simp] theorem servoWrite_calSumZ : (servoWrite p s).calSumZ = s.calSumZ := by unfold servoWrite; split <;> rfl
@[simp] theorem servoWrite_busPend : (servoWrite p s).busPend = s.busPend := by unfold servoWrite; split <;> rfl
@[simp] theorem servoWrite_greq : (servoWrite p s).greq = s.greq := by unfold servoWrite; split <;> rfl
@[simp] theorem servoWrite_hostRData : (servoWrite p s).hostRData = s.hostRData := by unfold servoWrite; split <;> rfl
@[simp] theorem servoWrite_busRsp : (servoWrite p s).busRsp = s.busRsp := by unfold servoWrite; split <;> rfl
@[simp] theorem servoWrite_script : (servoWrite p s).script = s.script := by unfold servoWrite; split <;> rfl
@[simp] theorem servoWrite_cycle : (servoWrite p s).cycle = s.cycle := by unfold servoWrite; split <;> rfl
end

section
variable (s : State)
@[simp] theorem timerTick_cfg : (timerTick s).cfg = s.cfg := by unfold timerTick; split <;> (try split) <;> rfl
@[simp] theorem timerTick_trun : (timerTick s).trun = s.trun := by unfold timerTick; split <;> (try split) <;> rfl
@[simp] theorem timerTick_phase : (timerTick s).phase = s.phase := by unfold timerTick; split <;> (try split) <;> rfl
@[simp] theorem timerTick_echoSync : (timerTick s).echoSync = s.echoSync := by unfold timerTick; split <;> (try split) <;> rfl
@[simp] theorem timerTick_echoNew : (timerTick s).echoNew = s.echoNew := by unfold timerTick; split <;> (try split) <;> rfl
@[simp] theorem timerTick_duration : (timerTick s).duration = s.duration := by unfold timerTick; split <;> (try split) <;> rfl
@[simp] theorem timerTick_dist : (timerTick s).dist = s.dist := by unfold timerTick; split <;> (try split) <;> rfl
@[simp] theorem timerTick_trigCnt : (timerTick s).trigCnt = s.trigCnt := by unfold timerTick; split <;> (try split) <;> rfl
@[simp] theorem timerTick_gyroSens : (timerTick s).gyroSens = s.gyroSens := by unfold timerTick; split <;> (try split) <;> rfl
@[simp] theorem timerTick_gyroRange : (timerTick s).gyroRange = s.gyroRange := by unfold timerTick; split <;> (try split) <;> rfl
@[simp] theorem timerTick_initOk : (timerTick s).initOk = s.initOk := by unfold timerTick; split <;> (try split) <;> rfl
@[simp] theorem timerTick_calDone : (timerTick s).calDone = s.calDone := by unfold timerTick; split <;> (try split) <;> rfl
@[simp] theorem timerTick_gyroOffX : (timerTick s).gyroOffX = s.gyroOffX := by unfold timerTick; split <;> (try split) <;> rfl
@[simp] theorem timerTick_gyroOffY : (timerTick s).gyroOffY = s.gyroOffY := by unfold timerTick; split <;> (try split) <;> rfl
@[simp] theorem timerTick_gyroOffZ : (timerTick s).gyroOffZ = s.gyroOffZ := by unfold timerTick; split <;> (try split) <;> rfl
@[simp] theorem timerTick_headRoll : (timerTick s).headRoll = s.headRoll := by unfold timerTick; split <;> (try split) <;> rfl
@[simp] theorem timerTick_headPitch : (timerTick s).headPitch = s.headPitch := by unfold timerTick; split <;> (try split) <;> rfl
@[simp] theorem timerTick_headYaw : (timerTick s).headYaw = s.headYaw := by unfold timerTick; split <;> (try split) <;> rfl
@[simp] theorem timerTick_servoPulse : (timerTick s).servoPulse = s.servoPulse := by unfold timerTick; split <;> (try split) <;> rfl
@[simp] theorem timerTick_pwmWr : (timerTick s).pwmWr = s.pwmWr := by unfold timerTick; split <;> (try split) <;> rfl
@[simp] theorem timerTick_pwmWrites : (timerTick s).pwmWrites = s.pwmWrites := by unfold timerTick; split <;> (try split) <;> rfl
@[simp] theorem timerTick_gapSel : (timerTick s).gapSel = s.gapSel := by unfold timerTick; split <;> (try split) <;> rfl
@[simp] theorem timerTick_gapMaxd : (timerTick s).gapMaxd = s.gapMaxd := by unfold timerTick; split <;> (try split) <;> rfl
@[simp] theorem timerTick_gapPath : (timerTick s).gapPath = s.gapPath := by unfold timerTick; split <;> (try split) <;> rfl
@[simp] theorem timerTick_gapIdx : (timerTick s).gapIdx = s.gapIdx := by unfold timerTick; split <;> (try split) <;> rfl
@[simp] theorem timerTick_gapStaleAny : (timerTick s).gapStaleAny = s.gapStaleAny := by unfold timerTick; split <;> (try split) <;> rfl
@[simp] theorem timerTick_seqK : (timerTick s).seqK = s.seqK := by unfold timerTick; split <;> (try split) <;> rfl
@[simp] theorem timerTick_cmdArg : (timerTick s).cmdArg = s.cmdArg := by unfold timerTick; split <;> (try split) <;> rfl
@[simp] theorem timerTick_cmdOp : (timerTick s).cmdOp = s.cmdOp := by unfold timerTick; split <;> (try split) <;> rfl
@[simp] theorem timerTick_curOp : (timerTick s).curOp = s.curOp := by unfold timerTick; split <;> (try split) <;> rfl
@[simp] theorem timerTick_curArg : (timerTick s).curArg = s.curArg := by unfold timerTick; split <;> (try split) <;> rfl
@[simp] theorem timerTick_busy : (timerTick s).busy = s.busy := by unfold timerTick; split <;> (try split) <;> rfl
@[simp] theorem timerTick_code : (timerTick s).code = s.code := by unfold timerTick; split <;> (try split) <;> rfl
@[simp] theorem timerTick_cfgFatal : (timerTick s).cfgFatal = s.cfgFatal := by unfold timerTick; split <;> (try split) <;> rfl
@[simp] theorem timerTick_ovr : (timerTick s).ovr = s.ovr := by unfold timerTick; split <;> (try split) <;> rfl
@[simp] theorem timerTick_lastOpc : (timerTick s).lastOpc = s.lastOpc := by unfold timerTick; split <;> (try split) <;> rfl
@[simp] theorem timerTick_result : (timerTick s).result = s.result := by unfold timerTick; split <;> (try split) <;> rfl
@[simp] theorem timerTick_seqStep : (timerTick s).seqStep = s.seqStep := by unfold timerTick; split <;> (try split) <;> rfl
@[simp] theorem timerTick_seqWait : (timerTick s).seqWait = s.seqWait := by unfold timerTick; split <;> (try split) <;> rfl
@[simp] theorem timerTick_seqI : (timerTick s).seqI = s.seqI := by unfold timerTick; split <;> (try split) <;> rfl
@[simp] theorem timerTick_calSumX : (timerTick s).calSumX = s.calSumX := by unfold timerTick; split <;> (try split) <;> rfl
@[simp] theorem timerTick_calSumY : (timerTick s).calSumY = s.calSumY := by unfold timerTick; split <;> (try split) <;> rfl
@[simp] theorem timerTick_calSumZ : (timerTick s).calSumZ = s.calSumZ := by unfold timerTick; split <;> (try split) <;> rfl
@[simp] theorem timerTick_busPend : (timerTick s).busPend = s.busPend := by unfold timerTick; split <;> (try split) <;> rfl
@[simp] theorem timerTick_greq : (timerTick s).greq = s.greq := by unfold timerTick; split <;> (try split) <;> rfl
@[simp] theorem timerTick_hostRData : (timerTick s).hostRData = s.hostRData := by unfold timerTick; split <;> (try split) <;> rfl
@[simp] theorem timerTick_busRsp : (timerTick s).busRsp = s.busRsp := by unfold timerTick; split <;> (try split) <;> rfl
@[simp] theorem timerTick_script : (timerTick s).script = s.script := by unfold timerTick; split <;> (try split) <;> rfl
@[simp] theorem timerTick_cycle : (timerTick s).cycle = s.cycle := by unfold timerTick; split <;> (try split) <;> rfl
end

section
variable (s : State)
@[simp] theorem triggerTick_cfg : (triggerTick s).cfg = s.cfg := by unfold triggerTick; split <;> rfl
@[simp] theorem triggerTick_tcnt : (triggerTick s).tcnt = s.tcnt := by unfold triggerTick; split <;> rfl
@[simp] theorem triggerTick_ovf : (triggerTick s).ovf = s.ovf := by unfold triggerTick; split <;> rfl
@[simp] theorem triggerTick_trun : (triggerTick s).trun = s.trun := by unfold triggerTick; split <;> rfl
@[simp] theorem triggerTick_phase : (triggerTick s).phase = s.phase := by unfold triggerTick; split <;> rfl
@[simp] theorem triggerTick_echoSync : (triggerTick s).echoSync = s.echoSync := by unfold triggerTick; split <;> rfl
@[simp] theorem triggerTick_echoNew : (triggerTick s).echoNew = s.echoNew := by unfold triggerTick; split <;> rfl
@[simp] theorem triggerTick_duration : (triggerTick s).duration = s.duration := by unfold triggerTick; split <;> rfl
@[simp] theorem triggerTick_dist : (triggerTick s).dist = s.dist := by unfold triggerTick; split <;> rfl
@[simp] theorem triggerTick_gyroSens : (triggerTick s).gyroSens = s.gyroSens := by unfold triggerTick; split <;> rfl
@[simp] theorem triggerTick_gyroRange : (triggerTick s).gyroRange = s.gyroRange := by unfold triggerTick; split <;> rfl
@[simp] theorem triggerTick_initOk : (triggerTick s).initOk = s.initOk := by unfold triggerTick; split <;> rfl
@[simp] theorem triggerTick_calDone : (triggerTick s).calDone = s.calDone := by unfold triggerTick; split <;> rfl
@[simp] theorem triggerTick_gyroOffX : (triggerTick s).gyroOffX = s.gyroOffX := by unfold triggerTick; split <;> rfl
@[simp] theorem triggerTick_gyroOffY : (triggerTick s).gyroOffY = s.gyroOffY := by unfold triggerTick; split <;> rfl
@[simp] theorem triggerTick_gyroOffZ : (triggerTick s).gyroOffZ = s.gyroOffZ := by unfold triggerTick; split <;> rfl
@[simp] theorem triggerTick_headRoll : (triggerTick s).headRoll = s.headRoll := by unfold triggerTick; split <;> rfl
@[simp] theorem triggerTick_headPitch : (triggerTick s).headPitch = s.headPitch := by unfold triggerTick; split <;> rfl
@[simp] theorem triggerTick_headYaw : (triggerTick s).headYaw = s.headYaw := by unfold triggerTick; split <;> rfl
@[simp] theorem triggerTick_servoPulse : (triggerTick s).servoPulse = s.servoPulse := by unfold triggerTick; split <;> rfl
@[simp] theorem triggerTick_pwmWr : (triggerTick s).pwmWr = s.pwmWr := by unfold triggerTick; split <;> rfl
@[simp] theorem triggerTick_pwmWrites : (triggerTick s).pwmWrites = s.pwmWrites := by unfold triggerTick; split <;> rfl
@[simp] theorem triggerTick_gapSel : (triggerTick s).gapSel = s.gapSel := by unfold triggerTick; split <;> rfl
@[simp] theorem triggerTick_gapMaxd : (triggerTick s).gapMaxd = s.gapMaxd := by unfold triggerTick; split <;> rfl
@[simp] theorem triggerTick_gapPath : (triggerTick s).gapPath = s.gapPath := by unfold triggerTick; split <;> rfl
@[simp] theorem triggerTick_gapIdx : (triggerTick s).gapIdx = s.gapIdx := by unfold triggerTick; split <;> rfl
@[simp] theorem triggerTick_gapStaleAny : (triggerTick s).gapStaleAny = s.gapStaleAny := by unfold triggerTick; split <;> rfl
@[simp] theorem triggerTick_seqK : (triggerTick s).seqK = s.seqK := by unfold triggerTick; split <;> rfl
@[simp] theorem triggerTick_cmdArg : (triggerTick s).cmdArg = s.cmdArg := by unfold triggerTick; split <;> rfl
@[simp] theorem triggerTick_cmdOp : (triggerTick s).cmdOp = s.cmdOp := by unfold triggerTick; split <;> rfl
@[simp] theorem triggerTick_curOp : (triggerTick s).curOp = s.curOp := by unfold triggerTick; split <;> rfl
@[simp] theorem triggerTick_curArg : (triggerTick s).curArg = s.curArg := by unfold triggerTick; split <;> rfl
@[simp] theorem triggerTick_busy : (triggerTick s).busy = s.busy := by unfold triggerTick; split <;> rfl
@[simp] theorem triggerTick_code : (triggerTick s).code = s.code := by unfold triggerTick; split <;> rfl
@[simp] theorem triggerTick_cfgFatal : (triggerTick s).cfgFatal = s.cfgFatal := by unfold triggerTick; split <;> rfl
@[simp] theorem triggerTick_ovr : (triggerTick s).ovr = s.ovr := by unfold triggerTick; split <;> rfl
@[simp] theorem triggerTick_lastOpc : (triggerTick s).lastOpc = s.lastOpc := by unfold triggerTick; split <;> rfl
@[simp] theorem triggerTick_result : (triggerTick s).result = s.result := by unfold triggerTick; split <;> rfl
@[simp] theorem triggerTick_seqStep : (triggerTick s).seqStep = s.seqStep := by unfold triggerTick; split <;> rfl
@[simp] theorem triggerTick_seqWait : (triggerTick s).seqWait = s.seqWait := by unfold triggerTick; split <;> rfl
@[simp] theorem triggerTick_seqI : (triggerTick s).seqI = s.seqI := by unfold triggerTick; split <;> rfl
@[simp] theorem triggerTick_calSumX : (triggerTick s).calSumX = s.calSumX := by unfold triggerTick; split <;> rfl
@[simp] theorem triggerTick_calSumY : (triggerTick s).calSumY = s.calSumY := by unfold triggerTick; split <;> rfl
@[simp] theorem triggerTick_calSumZ : (triggerTick s).calSumZ = s.calSumZ := by unfold triggerTick; split <;> rfl
@[simp] theorem triggerTick_busPend : (triggerTick s).busPend = s.busPend := by unfold triggerTick; split <;> rfl
@[simp] theorem triggerTick_greq : (triggerTick s).greq = s.greq := by unfold triggerTick; split <;> rfl
@[simp] theorem triggerTick_hostRData : (triggerTick s).hostRData = s.hostRData := by unfold triggerTick; split <;> rfl
@[simp] theorem triggerTick_busRsp : (triggerTick s).busRsp = s.busRsp := by unfold triggerTick; split <;> rfl
@[simp] theorem triggerTick_script : (triggerTick s).script = s.script := by unfold triggerTick; split <;> rfl
@[simp] theorem triggerTick_cycle : (triggerTick s).cycle = s.cycle := by unfold triggerTick; split <;> rfl
end

section
variable (s : State) (e : Bool)
@[simp] theorem edgePhase_cfg : (edgePhase e s).cfg = s.cfg := by unfold edgePhase; split <;> (try split) <;> rfl
@[simp] theorem edgePhase_dist : (edgePhase e s).dist = s.dist := by unfold edgePhase; split <;> (try split) <;> rfl
@[simp] theorem edgePhase_trigCnt : (edgePhase e s).trigCnt = s.trigCnt := by unfold edgePhase; split <;> (try split) <;> rfl
@[simp] theorem edgePhase_gyroSens : (edgePhase e s).gyroSens = s.gyroSens := by unfold edgePhase; split <;> (try split) <;> rfl
@[simp] theorem edgePhase_gyroRange : (edgePhase e s).gyroRange = s.gyroRange := by unfold edgePhase; split <;> (try split) <;> rfl
@[simp] theorem edgePhase_initOk : (edgePhase e s).initOk = s.initOk := by unfold edgePhase; split <;> (try split) <;> rfl
@[simp] theorem edgePhase_calDone : (edgePhase e s).calDone = s.calDone := by unfold edgePhase; split <;> (try split) <;> rfl
@[simp] theorem edgePhase_gyroOffX : (edgePhase e s).gyroOffX = s.gyroOffX := by unfold edgePhase; split <;> (try split) <;> rfl
@[simp] theorem edgePhase_gyroOffY : (edgePhase e s).gyroOffY = s.gyroOffY := by unfold edgePhase; split <;> (try split) <;> rfl
@[simp] theorem edgePhase_gyroOffZ : (edgePhase e s).gyroOffZ = s.gyroOffZ := by unfold edgePhase; split <;> (try split) <;> rfl
@[simp] theorem edgePhase_headRoll : (edgePhase e s).headRoll = s.headRoll := by unfold edgePhase; split <;> (try split) <;> rfl
@[simp] theorem edgePhase_headPitch : (edgePhase e s).headPitch = s.headPitch := by unfold edgePhase; split <;> (try split) <;> rfl
@[simp] theorem edgePhase_headYaw : (edgePhase e s).headYaw = s.headYaw := by unfold edgePhase; split <;> (try split) <;> rfl
@[simp] theorem edgePhase_servoPulse : (edgePhase e s).servoPulse = s.servoPulse := by unfold edgePhase; split <;> (try split) <;> rfl
@[simp] theorem edgePhase_pwmWr : (edgePhase e s).pwmWr = s.pwmWr := by unfold edgePhase; split <;> (try split) <;> rfl
@[simp] theorem edgePhase_pwmWrites : (edgePhase e s).pwmWrites = s.pwmWrites := by unfold edgePhase; split <;> (try split) <;> rfl
@[simp] theorem edgePhase_gapSel : (edgePhase e s).gapSel = s.gapSel := by unfold edgePhase; split <;> (try split) <;> rfl
@[simp] theorem edgePhase_gapMaxd : (edgePhase e s).gapMaxd = s.gapMaxd := by unfold edgePhase; split <;> (try split) <;> rfl
@[simp] theorem edgePhase_gapPath : (edgePhase e s).gapPath = s.gapPath := by unfold edgePhase; split <;> (try split) <;> rfl
@[simp] theorem edgePhase_gapIdx : (edgePhase e s).gapIdx = s.gapIdx := by unfold edgePhase; split <;> (try split) <;> rfl
@[simp] theorem edgePhase_gapStaleAny : (edgePhase e s).gapStaleAny = s.gapStaleAny := by unfold edgePhase; split <;> (try split) <;> rfl
@[simp] theorem edgePhase_seqK : (edgePhase e s).seqK = s.seqK := by unfold edgePhase; split <;> (try split) <;> rfl
@[simp] theorem edgePhase_cmdArg : (edgePhase e s).cmdArg = s.cmdArg := by unfold edgePhase; split <;> (try split) <;> rfl
@[simp] theorem edgePhase_cmdOp : (edgePhase e s).cmdOp = s.cmdOp := by unfold edgePhase; split <;> (try split) <;> rfl
@[simp] theorem edgePhase_curOp : (edgePhase e s).curOp = s.curOp := by unfold edgePhase; split <;> (try split) <;> rfl
@[simp] theorem edgePhase_curArg : (edgePhase e s).curArg = s.curArg := by unfold edgePhase; split <;> (try split) <;> rfl
@[simp] theorem edgePhase_busy : (edgePhase e s).busy = s.busy := by unfold edgePhase; split <;> (try split) <;> rfl
@[simp] theorem edgePhase_code : (edgePhase e s).code = s.code := by unfold edgePhase; split <;> (try split) <;> rfl
@[simp] theorem edgePhase_cfgFatal : (edgePhase e s).cfgFatal = s.cfgFatal := by unfold edgePhase; split <;> (try split) <;> rfl
@[simp] theorem edgePhase_ovr : (edgePhase e s).ovr = s.ovr := by unfold edgePhase; split <;> (try split) <;> rfl
@[simp] theorem edgePhase_lastOpc : (edgePhase e s).lastOpc = s.lastOpc := by unfold edgePhase; split <;> (try split) <;> rfl
@[simp] theorem edgePhase_result : (edgePhase e s).result = s.result := by unfold edgePhase; split <;> (try split) <;> rfl
@[simp] theorem edgePhase_seqStep : (edgePhase e s).seqStep = s.seqStep := by unfold edgePhase; split <;> (try split) <;> rfl
@[simp] theorem edgePhase_seqWait : (edgePhase e s).seqWait = s.seqWait := by unfold edgePhase; split <;> (try split) <;> rfl
@[simp] theorem edgePhase_seqI : (edgePhase e s).seqI = s.seqI := by unfold edgePhase; split <;> (try split) <;> rfl
@[simp] theorem edgePhase_calSumX : (edgePhase e s).calSumX = s.calSumX := by unfold edgePhase; split <;> (try split) <;> rfl
@[simp] theorem edgePhase_calSumY : (edgePhase e s).calSumY = s.calSumY := by unfold edgePhase; split <;> (try split) <;> rfl
@[simp] theorem edgePhase_calSumZ : (edgePhase e s).calSumZ = s.calSumZ := by unfold edgePhase; split <;> (try split) <;> rfl
@[simp] theorem edgePhase_busPend : (edgePhase e s).busPend = s.busPend := by unfold edgePhase; split <;> (try split) <;> rfl
@[simp] theorem edgePhase_greq : (edgePhase e s).greq = s.greq := by unfold edgePhase; split <;> (try split) <;> rfl
@[simp] theorem edgePhase_hostRData : (edgePhase e s).hostRData = s.hostRData := by unfold edgePhase; split <;> (try split) <;> rfl
@[simp] theorem edgePhase_busRsp : (edgePhase e s).busRsp = s.busRsp := by unfold edgePhase; split <;> (try split) <;> rfl
@[simp] theorem edgePhase_script : (edgePhase e s).script = s.script := by unfold edgePhase; split <;> (try split) <;> rfl
@[simp] theorem edgePhase_cycle : (edgePhase e s).cycle = s.cycle := by unfold edgePhase; split <;> (try split) <;> rfl
end

section
variable (s : State) (inp : Inputs)
@[simp] theorem busPhase_cfg : (busPhase inp s).cfg = s.cfg := by unfold busPhase; split <;> rfl
@[simp] theorem busPhase_tcnt : (busPhase inp s).tcnt = s.tcnt := by unfold busPhase; split <;> rfl
@[simp] theorem busPhase_ovf : (busPhase inp s).ovf = s.ovf := by unfold busPhase; split <;> rfl
@[simp] theorem busPhase_trun : (busPhase inp s).trun = s.trun := by unfold busPhase; split <;> rfl
@[simp] theorem busPhase_phase : (busPhase inp s).phase = s.phase := by unfold busPhase; split <;> rfl
@[simp] theorem busPhase_echoSync : (busPhase inp s).echoSync = s.echoSync := by unfold busPhase; split <;> rfl
@[simp] theorem busPhase_echoNew : (busPhase inp s).echoNew = s.echoNew := by unfold busPhase; split <;> rfl
@[simp] theorem busPhase_duration : (busPhase inp s).duration = s.duration := by unfold busPhase; split <;> rfl
@[simp] theorem busPhase_dist : (busPhase inp s).dist = s.dist := by unfold busPhase; split <;> rfl
@[simp] theorem busPhase_trigCnt : (busPhase inp s).trigCnt = s.trigCnt := by unfold busPhase; split <;> rfl
@[simp] theorem busPhase_gyroSens : (busPhase inp s).gyroSens = s.gyroSens := by unfold busPhase; split <;> rfl
@[simp] theorem busPhase_gyroRange : (busPhase inp s).gyroRange = s.gyroRange := by unfold busPhase; split <;> rfl
@[simp] theorem busPhase_initOk : (busPhase inp s).initOk = s.initOk := by unfold busPhase; split <;> rfl
@[simp] theorem busPhase_calDone : (busPhase inp s).calDone = s.calDone := by unfold busPhase; split <;> rfl
@[simp] theorem busPhase_gyroOffX : (busPhase inp s).gyroOffX = s.gyroOffX := by unfold busPhase; split <;> rfl
@[simp] theorem busPhase_gyroOffY : (busPhase inp s).gyroOffY = s.gyroOffY := by unfold busPhase; split <;> rfl
@[simp] theorem busPhase_gyroOffZ : (busPhase inp s).gyroOffZ = s.gyroOffZ := by unfold busPhase; split <;> rfl
@[simp] theorem busPhase_headRoll : (busPhase inp s).headRoll = s.headRoll := by unfold busPhase; split <;> rfl
@[simp] theorem busPhase_headPitch : (busPhase inp s).headPitch = s.headPitch := by unfold busPhase; split <;> rfl
@[simp] theorem busPhase_headYaw : (busPhase inp s).headYaw = s.headYaw := by unfold busPhase; split <;> rfl
@[simp] theorem busPhase_servoPulse : (busPhase inp s).servoPulse = s.servoPulse := by unfold busPhase; split <;> rfl
@[simp] theorem busPhase_pwmWr : (busPhase inp s).pwmWr = s.pwmWr := by unfold busPhase; split <;> rfl
@[simp] theorem busPhase_pwmWrites : (busPhase inp s).pwmWrites = s.pwmWrites := by unfold busPhase; split <;> rfl
@[simp] theorem busPhase_gapSel : (busPhase inp s).gapSel = s.gapSel := by unfold busPhase; split <;> rfl
@[simp] theorem busPhase_gapMaxd : (busPhase inp s).gapMaxd = s.gapMaxd := by unfold busPhase; split <;> rfl
@[simp] theorem busPhase_gapPath : (busPhase inp s).gapPath = s.gapPath := by unfold busPhase; split <;> rfl
@[simp] theorem busPhase_gapIdx : (busPhase inp s).gapIdx = s.gapIdx := by unfold busPhase; split <;> rfl
@[simp] theorem busPhase_gapStaleAny : (busPhase inp s).gapStaleAny = s.gapStaleAny := by unfold busPhase; split <;> rfl
@[simp] theorem busPhase_seqK : (busPhase inp s).seqK = s.seqK := by unfold busPhase; split <;> rfl
@[simp] theorem busPhase_cmdArg : (busPhase inp s).cmdArg = s.cmdArg := by unfold busPhase; split <;> rfl
@[simp] theorem busPhase_cmdOp : (busPhase inp s).cmdOp = s.cmdOp := by unfold busPhase; split <;> rfl
@[simp] theorem busPhase_curOp : (busPhase inp s).curOp = s.curOp := by unfold busPhase; split <;> rfl
@[simp] theorem busPhase_curArg : (busPhase inp s).curArg = s.curArg := by unfold busPhase; split <;> rfl
@[simp] theorem busPhase_busy : (busPhase inp s).busy = s.busy := by unfold busPhase; split <;> rfl
@[simp] theorem busPhase_code : (busPhase inp s).code = s.code := by unfold busPhase; split <;> rfl
@[simp] theorem busPhase_cfgFatal : (busPhase inp s).cfgFatal = s.cfgFatal := by unfold busPhase; split <;> rfl
@[simp] theorem busPhase_ovr : (busPhase inp s).ovr = s.ovr := by unfold busPhase; split <;> rfl
@[simp] theorem busPhase_lastOpc : (busPhase inp s).lastOpc = s.lastOpc := by unfold busPhase; split <;> rfl
@[simp] theorem busPhase_result : (busPhase inp s).result = s.result := by unfold busPhase; split <;> rfl
@[simp] theorem busPhase_seqStep : (busPhase inp s).seqStep = s.seqStep := by unfold busPhase; split <;> rfl
@[simp] theorem busPhase_seqWait : (busPhase inp s).seqWait = s.seqWait := by unfold busPhase; split <;> rfl
@[simp] theorem busPhase_seqI : (busPhase inp s).seqI = s.seqI := by unfold busPhase; split <;> rfl
@[simp] theorem busPhase_calSumX : (busPhase inp s).calSumX = s.calSumX := by unfold busPhase; split <;> rfl
@[simp] theorem busPhase_calSumY : (busPhase inp s).calSumY = s.calSumY := by unfold busPhase; split <;> rfl
@[simp] theorem busPhase_calSumZ : (busPhase inp s).calSumZ = s.calSumZ := by unfold busPhase; split <;> rfl
@[simp] theorem busPhase_greq : (busPhase inp s).greq = s.greq := by unfold busPhase; split <;> rfl
@[simp] theorem busPhase_hostRData : (busPhase inp s).hostRData = s.hostRData := by unfold busPhase; split <;> rfl
@[simp] theorem busPhase_script : (busPhase inp s).script = s.script := by unfold busPhase; split <;> rfl
@[simp] theorem busPhase_cycle : (busPhase inp s).cycle = s.cycle := by unfold busPhase; split <;> rfl
end

section
variable (s : State)
@[simp] theorem idleSequencer_cfg : (idleSequencer s).cfg = s.cfg := by unfold idleSequencer; repeat (first | rfl | split)
@[simp] theorem idleSequencer_tcnt : (idleSequencer s).tcnt = s.tcnt := by unfold idleSequencer; repeat (first | rfl | split)
@[simp] theorem idleSequencer_ovf : (idleSequencer s).ovf = s.ovf := by unfold idleSequencer; repeat (first | rfl | split)
@[simp] theorem idleSequencer_trun : (idleSequencer s).trun = s.trun := by unfold idleSequencer; repeat (first | rfl | split)
@[simp] theorem idleSequencer_phase : (idleSequencer s).phase = s.phase := by unfold idleSequencer; repeat (first | rfl | split)
@[simp] theorem idleSequencer_echoSync : (idleSequencer s).echoSync = s.echoSync := by unfold idleSequencer; repeat (first | rfl | split)
@[simp] theorem idleSequencer_echoNew : (idleSequencer s).echoNew = s.echoNew := by unfold idleSequencer; repeat (first | rfl | split)
@[simp] theorem idleSequencer_duration : (idleSequencer s).duration = s.duration := by unfold idleSequencer; repeat (first | rfl | split)
@[simp] theorem idleSequencer_dist : (idleSequencer s).dist = s.dist := by unfold idleSequencer; repeat (first | rfl | split)
@[simp] theorem idleSequencer_trigCnt : (idleSequencer s).trigCnt = s.trigCnt := by unfold idleSequencer; repeat (first | rfl | split)
@[simp] theorem idleSequencer_gyroSens : (idleSequencer s).gyroSens = s.gyroSens := by unfold idleSequencer; repeat (first | rfl | split)
@[simp] theorem idleSequencer_gyroRange : (idleSequencer s).gyroRange = s.gyroRange := by unfold idleSequencer; repeat (first | rfl | split)
@[simp] theorem idleSequencer_initOk : (idleSequencer s).initOk = s.initOk := by unfold idleSequencer; repeat (first | rfl | split)
@[simp] theorem idleSequencer_calDone : (idleSequencer s).calDone = s.calDone := by unfold idleSequencer; repeat (first | rfl | split)
@[simp] theorem idleSequencer_gyroOffX : (idleSequencer s).gyroOffX = s.gyroOffX := by unfold idleSequencer; repeat (first | rfl | split)
@[simp] theorem idleSequencer_gyroOffY : (idleSequencer s).gyroOffY = s.gyroOffY := by unfold idleSequencer; repeat (first | rfl | split)
@[simp] theorem idleSequencer_gyroOffZ : (idleSequencer s).gyroOffZ = s.gyroOffZ := by unfold idleSequencer; repeat (first | rfl | split)
@[simp] theorem idleSequencer_headRoll : (idleSequencer s).headRoll = s.headRoll := by unfold idleSequencer; repeat (first | rfl | split)
@[simp] theorem idleSequencer_headPitch : (idleSequencer s).headPitch = s.headPitch := by unfold idleSequencer; repeat (first | rfl | split)
@[simp] theorem idleSequencer_headYaw : (idleSequencer s).headYaw = s.headYaw := by unfold idleSequencer; repeat (first | rfl | split)
@[simp] theorem idleSequencer_servoPulse : (idleSequencer s).servoPulse = s.servoPulse := by unfold idleSequencer; repeat (first | rfl | split)
@[simp] theorem idleSequencer_pwmWr : (idleSequencer s).pwmWr = s.pwmWr := by unfold idleSequencer; repeat (first | rfl | split)
@[simp] theorem idleSequencer_pwmWrites : (idleSequencer s).pwmWrites = s.pwmWrites := by unfold idleSequencer; repeat (first | rfl | split)
@[simp] theorem idleSequencer_gapSel : (idleSequencer s).gapSel = s.gapSel := by unfold idleSequencer; repeat (first | rfl | split)
@[simp] theorem idleSequencer_gapMaxd : (idleSequencer s).gapMaxd = s.gapMaxd := by unfold idleSequencer; repeat (first | rfl | split)
@[simp] theorem idleSequencer_gapPath : (idleSequencer s).gapPath = s.gapPath := by unfold idleSequencer; repeat (first | rfl | split)
@[simp] theorem idleSequencer_gapIdx : (idleSequencer s).gapIdx = s.gapIdx := by unfold idleSequencer; repeat (first | rfl | split)
@[simp] theorem idleSequencer_gapStaleAny : (idleSequencer s).gapStaleAny = s.gapStaleAny := by unfold idleSequencer; repeat (first | rfl | split)
@[simp] theorem idleSequencer_seqK : (idleSequencer s).seqK = s.seqK := by unfold idleSequencer; repeat (first | rfl | split)
@[simp] theorem idleSequencer_cmdArg : (idleSequencer s).cmdArg = s.cmdArg := by unfold idleSequencer; repeat (first | rfl | split)
@[simp] theorem idleSequencer_cmdOp : (idleSequencer s).cmdOp = s.cmdOp := by unfold idleSequencer; repeat (first | rfl | split)
@[simp] theorem idleSequencer_curOp : (idleSequencer s).curOp = s.curOp := by unfold idleSequencer; repeat (first | rfl | split)
@[simp] theorem idleSequencer_curArg : (idleSequencer s).curArg = s.curArg := by unfold idleSequencer; repeat (first | rfl | split)
@[simp] theorem idleSequencer_busy : (idleSequencer s).busy = s.busy := by unfold idleSequencer; repeat (first | rfl | split)
@[simp] theorem idleSequencer_code : (idleSequencer s).code = s.code := by unfold idleSequencer; repeat (first | rfl | split)
@[simp] theorem idleSequencer_cfgFatal : (idleSequencer s).cfgFatal = s.cfgFatal := by unfold idleSequencer; repeat (first | rfl | split)
@[simp] theorem idleSequencer_ovr : (idleSequencer s).ovr = s.ovr := by unfold idleSequencer; repeat (first | rfl | split)
@[simp] theorem idleSequencer_lastOpc : (idleSequencer s).lastOpc = s.lastOpc := by unfold idleSequencer; repeat (first | rfl | split)
@[simp] theorem idleSequencer_result : (idleSequencer s).result = s.result := by unfold idleSequencer; repeat (first | rfl | split)
@[simp] theorem idleSequencer_seqStep : (idleSequencer s).seqStep = s.seqStep := by unfold idleSequencer; repeat (first | rfl | split)
@[simp] theorem idleSequencer_seqI : (idleSequencer s).seqI = s.seqI := by unfold idleSequencer; repeat (first | rfl | split)
@[simp] theorem idleSequencer_calSumX : (idleSequencer s).calSumX = s.calSumX := by unfold idleSequencer; repeat (first | rfl | split)
@[simp] theorem idleSequencer_calSumY : (idleSequencer s).calSumY = s.calSumY := by unfold idleSequencer; repeat (first | rfl | split)
@[simp] theorem idleSequencer_calSumZ : (idleSequencer s).calSumZ = s.calSumZ := by unfold idleSequencer; repeat (first | rfl | split)
@[simp] theorem idleSequencer_busPend : (idleSequencer s).busPend = s.busPend := by unfold idleSequencer; repeat (first | rfl | split)
@[simp] theorem idleSequencer_greq : (idleSequencer s).greq = s.greq := by unfold idleSequencer; repeat (first | rfl | split)
@[simp] theorem idleSequencer_hostRData : (idleSequencer s).hostRData = s.hostRData := by unfold idleSequencer; repeat (first | rfl | split)
@[simp] theorem idleSequencer_busRsp : (idleSequencer s).busRsp = s.busRsp := by unfold idleSequencer; repeat (first | rfl | split)
@[simp] theorem idleSequencer_script : (idleSequencer s).script = s.script := by unfold idleSequencer; repeat (first | rfl | split)
@[simp] theorem idleSequencer_cycle : (idleSequencer s).cycle = s.cycle := by unfold idleSequencer; repeat (first | rfl | split)
end

section
variable (s : State) (p : Half) (k : BitVec 3) (d : Word)
@[simp] theorem gapRecord_cfg : (gapRecord p k d s).cfg = s.cfg := by unfold gapRecord; split <;> rfl
@[simp] theorem gapRecord_tcnt : (gapRecord p k d s).tcnt = s.tcnt := by unfold gapRecord; split <;> rfl
@[simp] theorem gapRecord_ovf : (gapRecord p k d s).ovf = s.ovf := by unfold gapRecord; split <;> rfl
@[simp] theorem gapRecord_trun : (gapRecord p k d s).trun = s.trun := by unfold gapRecord; split <;> rfl
@[simp] theorem gapRecord_phase : (gapRecord p k d s).phase = s.phase := by unfold gapRecord; split <;> rfl
@[simp] theorem gapRecord_echoSync : (gapRecord p k d s).echoSync = s.echoSync := by unfold gapRecord; split <;> rfl
@[simp] theorem gapRecord_echoNew : (gapRecord p k d s).echoNew = s.echoNew := by unfold gapRecord; split <;> rfl
@[simp] theorem gapRecord_duration : (gapRecord p k d s).duration = s.duration := by unfold gapRecord; split <;> rfl
@[simp] theorem gapRecord_dist : (gapRecord p k d s).dist = s.dist := by unfold gapRecord; split <;> rfl
@[simp] theorem gapRecord_trigCnt : (gapRecord p k d s).trigCnt = s.trigCnt := by unfold gapRecord; split <;> rfl
@[simp] theorem gapRecord_gyroSens : (gapRecord p k d s).gyroSens = s.gyroSens := by unfold gapRecord; split <;> rfl
@[simp] theorem gapRecord_gyroRange : (gapRecord p k d s).gyroRange = s.gyroRange := by unfold gapRecord; split <;> rfl
@[simp] theorem gapRecord_initOk : (gapRecord p k d s).initOk = s.initOk := by unfold gapRecord; split <;> rfl
@[simp] theorem gapRecord_calDone : (gapRecord p k d s).calDone = s.calDone := by unfold gapRecord; split <;> rfl
@[simp] theorem gapRecord_gyroOffX : (gapRecord p k d s).gyroOffX = s.gyroOffX := by unfold gapRecord; split <;> rfl
@[simp] theorem gapRecord_gyroOffY : (gapRecord p k d s).gyroOffY = s.gyroOffY := by unfold gapRecord; split <;> rfl
@[simp] theorem gapRecord_gyroOffZ : (gapRecord p k d s).gyroOffZ = s.gyroOffZ := by unfold gapRecord; split <;> rfl
@[simp] theorem gapRecord_headRoll : (gapRecord p k d s).headRoll = s.headRoll := by unfold gapRecord; split <;> rfl
@[simp] theorem gapRecord_headPitch : (gapRecord p k d s).headPitch = s.headPitch := by unfold gapRecord; split <;> rfl
@[simp] theorem gapRecord_headYaw : (gapRecord p k d s).headYaw = s.headYaw := by unfold gapRecord; split <;> rfl
@[simp] theorem gapRecord_servoPulse : (gapRecord p k d s).servoPulse = s.servoPulse := by unfold gapRecord; split <;> rfl
@[simp] theorem gapRecord_pwmWr : (gapRecord p k d s).pwmWr = s.pwmWr := by unfold gapRecord; split <;> rfl
@[simp] theorem gapRecord_pwmWrites : (gapRecord p k d s).pwmWrites = s.pwmWrites := by unfold gapRecord; split <;> rfl
@[simp] theorem gapRecord_gapPath : (gapRecord p k d s).gapPath = s.gapPath := by unfold gapRecord; split <;> rfl
@[simp] theorem gapRecord_gapStaleAny : (gapRecord p k d s).gapStaleAny = s.gapStaleAny := by unfold gapRecord; split <;> rfl
@[simp] theorem gapRecord_seqK : (gapRecord p k d s).seqK = s.seqK := by unfold gapRecord; split <;> rfl
@[simp] theorem gapRecord_cmdArg : (gapRecord p k d s).cmdArg = s.cmdArg := by unfold gapRecord; split <;> rfl
@[simp] theorem gapRecord_cmdOp : (gapRecord p k d s).cmdOp = s.cmdOp := by unfold gapRecord; split <;> rfl
@[simp] theorem gapRecord_curOp : (gapRecord p k d s).curOp = s.curOp := by unfold gapRecord; split <;> rfl
@[simp] theorem gapRecord_curArg : (gapRecord p k d s).curArg = s.curArg := by unfold gapRecord; split <;> rfl
@[simp] theorem gapRecord_busy : (gapRecord p k d s).busy = s.busy := by unfold gapRecord; split <;> rfl
@[simp] theorem gapRecord_code : (gapRecord p k d s).code = s.code := by unfold gapRecord; split <;> rfl
@[simp] theorem gapRecord_cfgFatal : (gapRecord p k d s).cfgFatal = s.cfgFatal := by unfold gapRecord; split <;> rfl
@[simp] theorem gapRecord_ovr : (gapRecord p k d s).ovr = s.ovr := by unfold gapRecord; split <;> rfl
@[simp] theorem gapRecord_lastOpc : (gapRecord p k d s).lastOpc = s.lastOpc := by unfold gapRecord; split <;> rfl
@[simp] theorem gapRecord_result : (gapRecord p k d s).result = s.result := by unfold gapRecord; split <;> rfl
@[simp] theorem gapRecord_seqStep : (gapRecord p k d s).seqStep = s.seqStep := by unfold gapRecord; split <;> rfl
@[simp] theorem gapRecord_seqWait : (gapRecord p k d s).seqWait = s.seqWait := by unfold gapRecord; split <;> rfl
@[simp] theorem gapRecord_seqI : (gapRecord p k d s).seqI = s.seqI := by unfold gapRecord; split <;> rfl
@[simp] theorem gapRecord_calSumX : (gapRecord p k d s).calSumX = s.calSumX := by unfold gapRecord; split <;> rfl
@[simp] theorem gapRecord_calSumY : (gapRecord p k d s).calSumY = s.calSumY := by unfold gapRecord; split <;> rfl
@[simp] theorem gapRecord_calSumZ : (gapRecord p k d s).calSumZ = s.calSumZ := by unfold gapRecord; split <;> rfl
@[simp] theorem gapRecord_busPend : (gapRecord p k d s).busPend = s.busPend := by unfold gapRecord; split <;> rfl
@[simp] theorem gapRecord_greq : (gapRecord p k d s).greq = s.greq := by unfold gapRecord; split <;> rfl
@[simp] theorem gapRecord_hostRData : (gapRecord p k d s).hostRData = s.hostRData := by unfold gapRecord; split <;> rfl
@[simp] theorem gapRecord_busRsp : (gapRecord p k d s).busRsp = s.busRsp := by unfold gapRecord; split <;> rfl
@[simp] theorem gapRecord_script : (gapRecord p k d s).script = s.script := by unfold gapRecord; split <;> rfl
@[simp] theorem gapRecord_cycle : (gapRecord p k d s).cycle = s.cycle := by unfold gapRecord; split <;> rfl
end

section
variable (s : State) (inp : Inputs)
@[simp] theorem autonomous_cfg : (autonomous inp s).cfg = s.cfg := by simp [autonomous]
@[simp] theorem autonomous_dist : (autonomous inp s).dist = s.dist := by simp [autonomous]
@[simp] theorem autonomous_gyroSens : (autonomous inp s).gyroSens = s.gyroSens := by simp [autonomous]
@[simp] theorem autonomous_gyroRange : (autonomous inp s).gyroRange = s.gyroRange := by simp [autonomous]
@[simp] theorem autonomous_initOk : (autonomous inp s).initOk = s.initOk := by simp [autonomous]
@[simp] theorem autonomous_calDone : (autonomous inp s).calDone = s.calDone := by simp [autonomous]
@[simp] theorem autonomous_gyroOffX : (autonomous inp s).gyroOffX = s.gyroOffX := by simp [autonomous]
@[simp] theorem autonomous_gyroOffY : (autonomous inp s).gyroOffY = s.gyroOffY := by simp [autonomous]
@[simp] theorem autonomous_gyroOffZ : (autonomous inp s).gyroOffZ = s.gyroOffZ := by simp [autonomous]
@[simp] theorem autonomous_headRoll : (autonomous inp s).headRoll = s.headRoll := by simp [autonomous]
@[simp] theorem autonomous_headPitch : (autonomous inp s).headPitch = s.headPitch := by simp [autonomous]
@[simp] theorem autonomous_headYaw : (autonomous inp s).headYaw = s.headYaw := by simp [autonomous]
@[simp] theorem autonomous_servoPulse : (autonomous inp s).servoPulse = s.servoPulse := by simp [autonomous]
@[simp] theorem autonomous_pwmWr : (autonomous inp s).pwmWr = s.pwmWr := by simp [autonomous]
@[simp] theorem autonomous_pwmWrites : (autonomous inp s).pwmWrites = s.pwmWrites := by simp [autonomous]
@[simp] theorem autonomous_gapSel : (autonomous inp s).gapSel = s.gapSel := by simp [autonomous]
@[simp] theorem autonomous_gapMaxd : (autonomous inp s).gapMaxd = s.gapMaxd := by simp [autonomous]
@[simp] theorem autonomous_gapPath : (autonomous inp s).gapPath = s.gapPath := by simp [autonomous]
@[simp] theorem autonomous_gapIdx : (autonomous inp s).gapIdx = s.gapIdx := by simp [autonomous]
@[simp] theorem autonomous_gapStaleAny : (autonomous inp s).gapStaleAny = s.gapStaleAny := by simp [autonomous]
@[simp] theorem autonomous_seqK : (autonomous inp s).seqK = s.seqK := by simp [autonomous]
@[simp] theorem autonomous_cmdArg : (autonomous inp s).cmdArg = s.cmdArg := by simp [autonomous]
@[simp] theorem autonomous_cmdOp : (autonomous inp s).cmdOp = s.cmdOp := by simp [autonomous]
@[simp] theorem autonomous_curOp : (autonomous inp s).curOp = s.curOp := by simp [autonomous]
@[simp] theorem autonomous_curArg : (autonomous inp s).curArg = s.curArg := by simp [autonomous]
@[simp] theorem autonomous_busy : (autonomous inp s).busy = s.busy := by simp [autonomous]
@[simp] theorem autonomous_code : (autonomous inp s).code = s.code := by simp [autonomous]
@[simp] theorem autonomous_cfgFatal : (autonomous inp s).cfgFatal = s.cfgFatal := by simp [autonomous]
@[simp] theorem autonomous_ovr : (autonomous inp s).ovr = s.ovr := by simp [autonomous]
@[simp] theorem autonomous_lastOpc : (autonomous inp s).lastOpc = s.lastOpc := by simp [autonomous]
@[simp] theorem autonomous_result : (autonomous inp s).result = s.result := by simp [autonomous]
@[simp] theorem autonomous_seqStep : (autonomous inp s).seqStep = s.seqStep := by simp [autonomous]
@[simp] theorem autonomous_seqWait : (autonomous inp s).seqWait = s.seqWait := by simp [autonomous]
@[simp] theorem autonomous_seqI : (autonomous inp s).seqI = s.seqI := by simp [autonomous]
@[simp] theorem autonomous_calSumX : (autonomous inp s).calSumX = s.calSumX := by simp [autonomous]
@[simp] theorem autonomous_calSumY : (autonomous inp s).calSumY = s.calSumY := by simp [autonomous]
@[simp] theorem autonomous_calSumZ : (autonomous inp s).calSumZ = s.calSumZ := by simp [autonomous]
@[simp] theorem autonomous_greq : (autonomous inp s).greq = s.greq := by simp [autonomous]
@[simp] theorem autonomous_hostRData : (autonomous inp s).hostRData = s.hostRData := by simp [autonomous]
@[simp] theorem autonomous_script : (autonomous inp s).script = s.script := by simp [autonomous]
@[simp] theorem autonomous_cycle : (autonomous inp s).cycle = s.cycle := by simp [autonomous]
end

section
variable (s : State) (addr : Byte) (v : Word)
@[simp] theorem hostWrite_cfg : (hostWrite addr v s).cfg = s.cfg := by unfold hostWrite writeCmdOp; repeat (first | rfl | split)
@[simp] theorem hostWrite_tcnt : (hostWrite addr v s).tcnt = s.tcnt := by unfold hostWrite writeCmdOp; repeat (first | rfl | split)
@[simp] theorem hostWrite_ovf : (hostWrite addr v s).ovf = s.ovf := by unfold hostWrite writeCmdOp; repeat (first | rfl | split)
@[simp] theorem hostWrite_trun : (hostWrite addr v s).trun = s.trun := by unfold hostWrite writeCmdOp; repeat (first | rfl | split)
@[simp] theorem hostWrite_phase : (hostWrite addr v s).phase = s.phase := by unfold hostWrite writeCmdOp; repeat (first | rfl | split)
@[simp] theorem hostWrite_echoSync : (hostWrite addr v s).echoSync = s.echoSync := by unfold hostWrite writeCmdOp; repeat (first | rfl | split)
@[simp] theorem hostWrite_echoNew : (hostWrite addr v s).echoNew = s.echoNew := by unfold hostWrite writeCmdOp; repeat (first | rfl | split)
@[simp] theorem hostWrite_duration : (hostWrite addr v s).duration = s.duration := by unfold hostWrite writeCmdOp; repeat (first | rfl | split)
@[simp] theorem hostWrite_dist : (hostWrite addr v s).dist = s.dist := by unfold hostWrite writeCmdOp; repeat (first | rfl | split)
@[simp] theorem hostWrite_trigCnt : (hostWrite addr v s).trigCnt = s.trigCnt := by unfold hostWrite writeCmdOp; repeat (first | rfl | split)
@[simp] theorem hostWrite_gyroSens : (hostWrite addr v s).gyroSens = s.gyroSens := by unfold hostWrite writeCmdOp; repeat (first | rfl | split)
@[simp] theorem hostWrite_gyroRange : (hostWrite addr v s).gyroRange = s.gyroRange := by unfold hostWrite writeCmdOp; repeat (first | rfl | split)
@[simp] theorem hostWrite_initOk : (hostWrite addr v s).initOk = s.initOk := by unfold hostWrite writeCmdOp; repeat (first | rfl | split)
@[simp] theorem hostWrite_calDone : (hostWrite addr v s).calDone = s.calDone := by unfold hostWrite writeCmdOp; repeat (first | rfl | split)
@[simp] theorem hostWrite_gyroOffX : (hostWrite addr v s).gyroOffX = s.gyroOffX := by unfold hostWrite writeCmdOp; repeat (first | rfl | split)
@[simp] theorem hostWrite_gyroOffY : (hostWrite addr v s).gyroOffY = s.gyroOffY := by unfold hostWrite writeCmdOp; repeat (first | rfl | split)
@[simp] theorem hostWrite_gyroOffZ : (hostWrite addr v s).gyroOffZ = s.gyroOffZ := by unfold hostWrite writeCmdOp; repeat (first | rfl | split)
@[simp] theorem hostWrite_headRoll : (hostWrite addr v s).headRoll = s.headRoll := by unfold hostWrite writeCmdOp; repeat (first | rfl | split)
@[simp] theorem hostWrite_headPitch : (hostWrite addr v s).headPitch = s.headPitch := by unfold hostWrite writeCmdOp; repeat (first | rfl | split)
@[simp] theorem hostWrite_headYaw : (hostWrite addr v s).headYaw = s.headYaw := by unfold hostWrite writeCmdOp; repeat (first | rfl | split)
@[simp] theorem hostWrite_servoPulse : (hostWrite addr v s).servoPulse = s.servoPulse := by unfold hostWrite writeCmdOp; repeat (first | rfl | split)
@[simp] theorem hostWrite_pwmWr : (hostWrite addr v s).pwmWr = s.pwmWr := by unfold hostWrite writeCmdOp; repeat (first | rfl | split)
@[simp] theorem hostWrite_pwmWrites : (hostWrite addr v s).pwmWrites = s.pwmWrites := by unfold hostWrite writeCmdOp; repeat (first | rfl | split)
@[simp] theorem hostWrite_gapSel : (hostWrite addr v s).gapSel = s.gapSel := by unfold hostWrite writeCmdOp; repeat (first | rfl | split)
@[simp] theorem hostWrite_gapMaxd : (hostWrite addr v s).gapMaxd = s.gapMaxd := by unfold hostWrite writeCmdOp; repeat (first | rfl | split)
@[simp] theorem hostWrite_gapPath : (hostWrite addr v s).gapPath = s.gapPath := by unfold hostWrite writeCmdOp; repeat (first | rfl | split)
@[simp] theorem hostWrite_gapIdx : (hostWrite addr v s).gapIdx = s.gapIdx := by unfold hostWrite writeCmdOp; repeat (first | rfl | split)
@[simp] theorem hostWrite_gapStaleAny : (hostWrite addr v s).gapStaleAny = s.gapStaleAny := by unfold hostWrite writeCmdOp; repeat (first | rfl | split)
@[simp] theorem hostWrite_seqK : (hostWrite addr v s).seqK = s.seqK := by unfold hostWrite writeCmdOp; repeat (first | rfl | split)
@[simp] theorem hostWrite_code : (hostWrite addr v s).code = s.code := by unfold hostWrite writeCmdOp; repeat (first | rfl | split)
@[simp] theorem hostWrite_cfgFatal : (hostWrite addr v s).cfgFatal = s.cfgFatal := by unfold hostWrite writeCmdOp; repeat (first | rfl | split)
@[simp] theorem hostWrite_lastOpc : (hostWrite addr v s).lastOpc = s.lastOpc := by unfold hostWrite writeCmdOp; repeat (first | rfl | split)
@[simp] theorem hostWrite_result : (hostWrite addr v s).result = s.result := by unfold hostWrite writeCmdOp; repeat (first | rfl | split)
@[simp] theorem hostWrite_seqI : (hostWrite addr v s).seqI = s.seqI := by unfold hostWrite writeCmdOp; repeat (first | rfl | split)
@[simp] theorem hostWrite_calSumX : (hostWrite addr v s).calSumX = s.calSumX := by unfold hostWrite writeCmdOp; repeat (first | rfl | split)
@[simp] theorem hostWrite_calSumY : (hostWrite addr v s).calSumY = s.calSumY := by unfold hostWrite writeCmdOp; repeat (first | rfl | split)
@[simp] theorem hostWrite_calSumZ : (hostWrite addr v s).calSumZ = s.calSumZ := by unfold hostWrite writeCmdOp; repeat (first | rfl | split)
@[simp] theorem hostWrite_busPend : (hostWrite addr v s).busPend = s.busPend := by unfold hostWrite writeCmdOp; repeat (first | rfl | split)
@[simp] theorem hostWrite_greq : (hostWrite addr v s).greq = s.greq := by unfold hostWrite writeCmdOp; repeat (first | rfl | split)
@[simp] theorem hostWrite_hostRData : (hostWrite addr v s).hostRData = s.hostRData := by unfold hostWrite writeCmdOp; repeat (first | rfl | split)
@[simp] theorem hostWrite_busRsp : (hostWrite addr v s).busRsp = s.busRsp := by unfold hostWrite writeCmdOp; repeat (first | rfl | split)
@[simp] theorem hostWrite_script : (hostWrite addr v s).script = s.script := by unfold hostWrite writeCmdOp; repeat (first | rfl | split)
@[simp] theorem hostWrite_cycle : (hostWrite addr v s).cycle = s.cycle := by unfold hostWrite writeCmdOp; repeat (first | rfl | split)
end

section
variable (s : State) (a : HostAccess)
@[simp] theorem hostPhase_cfg : (hostPhase a s).cfg = s.cfg := by cases a <;> simp [hostPhase]
@[simp] theorem hostPhase_tcnt : (hostPhase a s).tcnt = s.tcnt := by cases a <;> simp [hostPhase]
@[simp] theorem hostPhase_ovf : (hostPhase a s).ovf = s.ovf := by cases a <;> simp [hostPhase]
@[simp] theorem hostPhase_trun : (hostPhase a s).trun = s.trun := by cases a <;> simp [hostPhase]
@[simp] theorem hostPhase_phase : (hostPhase a s).phase = s.phase := by cases a <;> simp [hostPhase]
@[simp] theorem hostPhase_echoSync : (hostPhase a s).echoSync = s.echoSync := by cases a <;> simp [hostPhase]
@[simp] theorem hostPhase_echoNew : (hostPhase a s).echoNew = s.echoNew := by cases a <;> simp [hostPhase]
@[simp] theorem hostPhase_duration : (hostPhase a s).duration = s.duration := by cases a <;> simp [hostPhase]
@[simp] theorem hostPhase_dist : (hostPhase a s).dist = s.dist := by cases a <;> simp [hostPhase]
@[simp] theorem hostPhase_trigCnt : (hostPhase a s).trigCnt = s.trigCnt := by cases a <;> simp [hostPhase]
@[simp] theorem hostPhase_gyroSens : (hostPhase a s).gyroSens = s.gyroSens := by cases a <;> simp [hostPhase]
@[simp] theorem hostPhase_gyroRange : (hostPhase a s).gyroRange = s.gyroRange := by cases a <;> simp [hostPhase]
@[simp] theorem hostPhase_initOk : (hostPhase a s).initOk = s.initOk := by cases a <;> simp [hostPhase]
@[simp] theorem hostPhase_calDone : (hostPhase a s).calDone = s.calDone := by cases a <;> simp [hostPhase]
@[simp] theorem hostPhase_gyroOffX : (hostPhase a s).gyroOffX = s.gyroOffX := by cases a <;> simp [hostPhase]
@[simp] theorem hostPhase_gyroOffY : (hostPhase a s).gyroOffY = s.gyroOffY := by cases a <;> simp [hostPhase]
@[simp] theorem hostPhase_gyroOffZ : (hostPhase a s).gyroOffZ = s.gyroOffZ := by cases a <;> simp [hostPhase]
@[simp] theorem hostPhase_headRoll : (hostPhase a s).headRoll = s.headRoll := by cases a <;> simp [hostPhase]
@[simp] theorem hostPhase_headPitch : (hostPhase a s).headPitch = s.headPitch := by cases a <;> simp [hostPhase]
@[simp] theorem hostPhase_headYaw : (hostPhase a s).headYaw = s.headYaw := by cases a <;> simp [hostPhase]
@[simp] theorem hostPhase_servoPulse : (hostPhase a s).servoPulse = s.servoPulse := by cases a <;> simp [hostPhase]
@[simp] theorem hostPhase_pwmWr : (hostPhase a s).pwmWr = s.pwmWr := by cases a <;> simp [hostPhase]
@[simp] theorem hostPhase_pwmWrites : (hostPhase a s).pwmWrites = s.pwmWrites := by cases a <;> simp [hostPhase]
@[simp] theorem hostPhase_gapSel : (hostPhase a s).gapSel = s.gapSel := by cases a <;> simp [hostPhase]
@[simp] theorem hostPhase_gapMaxd : (hostPhase a s).gapMaxd = s.gapMaxd := by cases a <;> simp [hostPhase]
@[simp] theorem hostPhase_gapPath : (hostPhase a s).gapPath = s.gapPath := by cases a <;> simp [hostPhase]
@[simp] theorem hostPhase_gapIdx : (hostPhase a s).gapIdx = s.gapIdx := by cases a <;> simp [hostPhase]
@[simp] theorem hostPhase_gapStaleAny : (hostPhase a s).gapStaleAny = s.gapStaleAny := by cases a <;> simp [hostPhase]
@[simp] theorem hostPhase_seqK : (hostPhase a s).seqK = s.seqK := by cases a <;> simp [hostPhase]
@[simp] theorem hostPhase_code : (hostPhase a s).code = s.code := by cases a <;> simp [hostPhase]
@[simp] theorem hostPhase_cfgFatal : (hostPhase a s).cfgFatal = s.cfgFatal := by cases a <;> simp [hostPhase]
@[simp] theorem hostPhase_lastOpc : (hostPhase a s).lastOpc = s.lastOpc := by cases a <;> simp [hostPhase]
@[simp] theorem hostPhase_result : (hostPhase a s).result = s.result := by cases a <;> simp [hostPhase]
@[simp] theorem hostPhase_seqI : (hostPhase a s).seqI = s.seqI := by cases a <;> simp [hostPhase]
@[simp] theorem hostPhase_calSumX : (hostPhase a s).calSumX = s.calSumX := by cases a <;> simp [hostPhase]
@[simp] theorem hostPhase_calSumY : (hostPhase a s).calSumY = s.calSumY := by cases a <;> simp [hostPhase]
@[simp] theorem hostPhase_calSumZ : (hostPhase a s).calSumZ = s.calSumZ := by cases a <;> simp [hostPhase]
@[simp] theorem hostPhase_busPend : (hostPhase a s).busPend = s.busPend := by cases a <;> simp [hostPhase]
@[simp] theorem hostPhase_greq : (hostPhase a s).greq = s.greq := by cases a <;> simp [hostPhase]
@[simp] theorem hostPhase_busRsp : (hostPhase a s).busRsp = s.busRsp := by cases a <;> simp [hostPhase]
@[simp] theorem hostPhase_script : (hostPhase a s).script = s.script := by cases a <;> simp [hostPhase]
@[simp] theorem hostPhase_cycle : (hostPhase a s).cycle = s.cycle := by cases a <;> simp [hostPhase]
end

end Sys2Proof.Machine
end

