-- ==== Sys2Proof/Laws/Exec.lean ====
section
/-!
SUPPORT. What a segment can do, said once for every command: the fields that no segment writes, and the inversion of
the sequencer phase and of a cycle.
-/

namespace Sys2Proof.Machine

/-- The fields that phase 6 never writes agree in the two states. -/
structure SameOutside (s t : State) : Prop where
  cfg       : t.cfg = s.cfg
  tcnt      : t.tcnt = s.tcnt
  ovf       : t.ovf = s.ovf
  trun      : t.trun = s.trun
  phase     : t.phase = s.phase
  echoSync  : t.echoSync = s.echoSync
  duration  : t.duration = s.duration
  cmdArg    : t.cmdArg = s.cmdArg
  cmdOp     : t.cmdOp = s.cmdOp
  curOp     : t.curOp = s.curOp
  curArg    : t.curArg = s.curArg
  ovr       : t.ovr = s.ovr
  hostRData : t.hostRData = s.hostRData
  busRsp    : t.busRsp = s.busRsp
  script    : t.script = s.script
  cycle     : t.cycle = s.cycle

theorem SameOutside.refl (s : State) : SameOutside s s :=
  ⟨rfl, rfl, rfl, rfl, rfl, rfl, rfl, rfl, rfl, rfl, rfl, rfl, rfl, rfl, rfl, rfl⟩

theorem SameOutside.trans {s t u : State} (h : SameOutside s t) (k : SameOutside t u) : SameOutside s u :=
  ⟨k.cfg.trans h.cfg, k.tcnt.trans h.tcnt, k.ovf.trans h.ovf, k.trun.trans h.trun, k.phase.trans h.phase,
   k.echoSync.trans h.echoSync, k.duration.trans h.duration, k.cmdArg.trans h.cmdArg, k.cmdOp.trans h.cmdOp,
   k.curOp.trans h.curOp, k.curArg.trans h.curArg, k.ovr.trans h.ovr, k.hostRData.trans h.hostRData,
   k.busRsp.trans h.busRsp, k.script.trans h.script, k.cycle.trans h.cycle⟩

/-- The command word is unchanged where its two halves are. -/
theorem SameOutside.currentWord {s t : State} (h : SameOutside s t) : currentWord t = currentWord s := by
  simp [Machine.currentWord, h.curOp, h.curArg]

theorem finish_same (c : Code) (s : State) : SameOutside s (finish c s) := by constructor <;> simp

theorem waitThen_same (n : Nat) (l : Seg) (s : State) : SameOutside s (waitThen n l s) := by constructor <;> simp

theorem busWrite_same (g v : Byte) (l : Seg) (s : State) : SameOutside s (busWrite g v l s) := by constructor <;> simp

theorem busRead_same (l : Seg) (s : State) : SameOutside s (busRead l s) := by constructor <;> simp

theorem servoWrite_same (p : Half) (s : State) : SameOutside s (servoWrite p s) := by constructor <;> simp

theorem measureStart_same (l : Seg) (s : State) : SameOutside s (measureStart l s) := by constructor <;> simp

theorem steerThen_same (p : Half) (l : Seg) (s : State) : SameOutside s (steerThen p l s) :=
  (servoWrite_same p s).trans (waitThen_same _ l _)

theorem gapRecord_same (p : Half) (k : BitVec 3) (d : Word) (s : State) : SameOutside s (gapRecord p k d s) := by
  constructor <;> simp

theorem gapCenter_same (s : State) : SameOutside s (gapCenter s) := steerThen_same _ _ s

theorem initNext_same (r : GyroRange) (s : State) : SameOutside s (initNext r s) := by
  unfold initNext; split <;> exact busWrite_same ..

theorem idleSequencer_same (s : State) : SameOutside s (idleSequencer s) := by constructor <;> simp

theorem initFail_same (s : State) : SameOutside s (initFail s) := by constructor <;> simp [initFail]

theorem calSample_same (b : SixBytes) (s : State) : SameOutside s (calSample b s) := by
  constructor <;> simp [calSample]

theorem calFinish_same (s : State) : SameOutside s (calFinish s) := by constructor <;> simp [calFinish]

theorem sampleIntegrate_same (dt : Word) (b : SixBytes) (s : State) : SameOutside s (sampleIntegrate dt b s) := by
  constructor <;> simp [sampleIntegrate]

theorem gapMeasure_same (s : State) : SameOutside s (gapMeasure s) := by constructor <;> simp [gapMeasure]

theorem gapSelect_same (p : Half) (d : Word) (g : GapPath) (s : State) : SameOutside s (gapSelect p d g s) := by
  constructor <;> simp [gapSelect]

theorem gapStart_same (s : State) : SameOutside s (gapStart s) := by
  constructor <;> simp [gapStart, steerThen]

theorem gapRight_same (s : State) : SameOutside s (gapRight s) := by
  unfold gapRight
  split
  · exact ((gapMeasure_same s).trans (gapSelect_same ..)).trans (gapCenter_same _)
  · exact (gapMeasure_same s).trans (steerThen_same ..)

theorem gapEnd_same (s : State) : SameOutside s (gapEnd s) := by constructor <;> simp [gapEnd]

theorem gapLeft_same {s t : State} (h : gapLeft s = .next t) : SameOutside s t := by
  unfold gapLeft at h
  split at h
  · cases h; exact ((gapMeasure_same s).trans (gapSelect_same ..)).trans (gapCenter_same _)
  · split at h
    · cases h; constructor <;> simp [steerThen, gapMeasure]
    · cases h

theorem gapSweep_same {s t : State} (h : gapSweep s = .next t) : SameOutside s t := by
  unfold gapSweep at h
  dsimp only at h
  split at h
  · cases h
  · split at h
    · split at h
      · cases h; constructor <;> simp [steerThen, gapMeasure]
      · cases h
    · cases h; exact ((gapMeasure_same s).trans (gapRecord_same ..)).trans (gapCenter_same _)

theorem execNop_same {s t : State} (h : execNop s = .next t) : SameOutside s t := by
  unfold execNop at h; split at h <;> cases h; exact finish_same ..

theorem execIllegal_same {s t : State} (h : execIllegal s = .next t) : SameOutside s t := by
  unfold execIllegal at h; split at h <;> cases h; exact finish_same ..

theorem execEchoTrigger_same {s t : State} (h : execEchoTrigger s = .next t) : SameOutside s t := by
  unfold execEchoTrigger at h; split at h <;> cases h; constructor <;> simp

theorem execEchoRead_same {s t : State} (h : execEchoRead s = .next t) : SameOutside s t := by
  unfold execEchoRead at h; split at h <;> cases h <;> constructor <;> simp

theorem execEchoConvert_same {tc : Byte} {ovf : Half} {s t : State} (h : execEchoConvert tc ovf s = .next t) :
    SameOutside s t := by
  unfold execEchoConvert at h; split at h <;> cases h; constructor <;> simp

theorem execGyroInit_same {r : Word} {s t : State} (h : execGyroInit r s = .next t) : SameOutside s t := by
  have seqI (n : Half) : SameOutside s { s with seqI := n } := by constructor <;> rfl
  unfold execGyroInit at h
  split at h
  · cases h; constructor <;> simp
  · cases h; exact (seqI 0#16).trans (initNext_same ..)
  · split at h <;> cases h
    · exact .refl s
    · split
      · exact initFail_same s
      · exact (seqI _).trans (initNext_same ..)
  · split at h <;> cases h
    · exact .refl s
    · split
      · exact initFail_same s
      · constructor <;> simp
  · cases h

theorem execGyroCalibrate_same {s t : State} (h : execGyroCalibrate s = .next t) : SameOutside s t := by
  unfold execGyroCalibrate at h
  split at h
  · cases h
    split
    · exact finish_same ..
    · split
      · exact finish_same ..
      · constructor <;> simp
  · split at h <;> cases h
    · exact .refl s
    · exact calSample_same ..
  · cases h
    split
    · exact busRead_same ..
    · exact calFinish_same s
  · cases h

theorem execGyroSample_same {dt : Word} {s t : State} (h : execGyroSample dt s = .next t) : SameOutside s t := by
  unfold execGyroSample at h
  split at h
  · cases h
    split
    · exact finish_same ..
    · exact busRead_same ..
  · split at h <;> cases h
    · exact .refl s
    · exact sampleIntegrate_same ..
  · cases h

theorem execGyroReset_same {s t : State} (h : execGyroReset s = .next t) : SameOutside s t := by
  unfold execGyroReset at h; split at h <;> cases h; constructor <;> simp

theorem execServoSetHeading_same {y : Word} {s t : State} (h : execServoSetHeading y s = .next t) :
    SameOutside s t := by
  unfold execServoSetHeading at h
  split at h
  · split at h
    · split at h <;> cases h; constructor <;> simp
    · cases h; exact finish_same ..
  · cases h

theorem execServoSetPulse_same {p : Word} {s t : State} (h : execServoSetPulse p s = .next t) : SameOutside s t := by
  unfold execServoSetPulse at h
  split at h <;> cases h
  split
  · exact (servoWrite_same ..).trans (finish_same ..)
  · exact finish_same ..

theorem execServoAngleToPulse_same {a : Word} {s t : State} (h : execServoAngleToPulse a s = .next t) :
    SameOutside s t := by
  unfold execServoAngleToPulse at h
  split at h
  · split at h <;> cases h <;> constructor <;> simp
  · cases h

theorem execGapFind_same {s t : State} (h : execGapFind s = .next t) : SameOutside s t := by
  unfold execGapFind at h
  split at h
  · cases h; exact gapStart_same s
  · cases h; exact measureStart_same ..
  · cases h; exact gapRight_same s
  · cases h; exact measureStart_same ..
  · exact gapLeft_same h
  · cases h; exact measureStart_same ..
  · exact gapSweep_same h
  · cases h; exact gapEnd_same s
  · cases h

theorem execGapPulseToAngle_same {p : Word} {s t : State} (h : execGapPulseToAngle p s = .next t) :
    SameOutside s t := by
  unfold execGapPulseToAngle at h
  split at h
  · split at h <;> cases h <;> constructor <;> simp
  · cases h

/-- No command writes the fields of `SameOutside`. -/
theorem exec_same {i : Instr} {s t : State} (h : exec i s = .next t) : SameOutside s t := by
  cases i with
  | nop => exact execNop_same h
  | echoTrigger => exact execEchoTrigger_same h
  | echoRead => exact execEchoRead_same h
  | echoConvert tc ovf => exact execEchoConvert_same h
  | gyroInit r => exact execGyroInit_same h
  | gyroCalibrate => exact execGyroCalibrate_same h
  | gyroSample dt => exact execGyroSample_same h
  | gyroReset => exact execGyroReset_same h
  | servoSetHeading y => exact execServoSetHeading_same h
  | servoSetPulse p => exact execServoSetPulse_same h
  | servoAngleToPulse a => exact execServoAngleToPulse_same h
  | gapFind => exact execGapFind_same h
  | gapPulseToAngle p => exact execGapPulseToAngle_same h

/-- Neither does the segment of the latched word, ILLEGAL's included. -/
theorem runSegment_same {s t : State} (h : runSegment s = .next t) : SameOutside s t := by
  unfold runSegment at h
  split at h
  · exact exec_same h
  · exact execIllegal_same h

/-- Phase 6 runs the due segment, or counts a wait down. -/
theorem sequencerPhase_cases {s t : State} (h : sequencerPhase s = .next t) :
    (∃ l, dueSegment s = some l ∧ runSegment s = .next t) ∨ (dueSegment s = none ∧ t = idleSequencer s) := by
  unfold sequencerPhase at h
  split at h
  · exact .inl ⟨_, ‹_›, h⟩
  · cases h; exact .inr ⟨‹_›, rfl⟩

theorem sequencerPhase_same {s t : State} (h : sequencerPhase s = .next t) : SameOutside s t := by
  obtain ⟨l, _, hr⟩ | ⟨_, rfl⟩ := sequencerPhase_cases h
  · exact runSegment_same hr
  · exact idleSequencer_same s

/-- A due segment is the one SEQ_STEP names; it has its response, or its wait is over. -/
theorem dueSegment_some {s : State} {l : Seg} (h : dueSegment s = some l) :
    s.seqStep = .seg l ∧ (l.awaits.isSome = true → s.busRsp.isSome = true) ∧ (l.awaits = none → s.seqWait = 0#32) := by
  unfold dueSegment at h
  split at h
  · cases h
  · rename_i m hm
    split at h
    · split at h <;> cases h
      exact ⟨hm, fun _ => ‹_›, fun hn => by simp_all⟩
    · split at h <;> cases h
      exact ⟨hm, fun hn => absurd hn ‹_›, fun _ => ‹_›⟩

end Sys2Proof.Machine
end

