-- ==== Sys2Proof/Laws/PerInstr.lean ====
section
/-!
SUPPORT. The family of statements made per instruction: each command's word has the CMD64 format, with 0 in RSV and in
the ARG bits that the command ignores (30_encoding.md R80, R82, R88).
-/

namespace Sys2Proof.Laws.CommandWordFormat

/-- The fields of a command's word. -/
def Statement (i : Instr) : Prop :=
  opcOf (encode i) = i.opc ∧ rsvOf (encode i) = 0#24 ∧ argOf (encode i) = i.arg ∧ i.arg &&& i.argMask = i.arg

/-- The three fields hold of every command; what is left is the ignored ARG bits. -/
theorem of_arg {i : Instr} (h : i.arg &&& i.argMask = i.arg) : Statement i :=
  ⟨by rw [encode, opcOf_commandWord, Instr.cmdOp_opc], by rw [encode, rsvOf_commandWord, Instr.cmdOp_rsv],
    by rw [encode, argOf_commandWord], h⟩

theorem nop : Statement .nop := of_arg rfl

theorem echoTrigger : Statement .echoTrigger := of_arg rfl

theorem echoRead : Statement .echoRead := of_arg rfl

theorem echoConvert (tc : Byte) (ovf : Half) : Statement (.echoConvert tc ovf) :=
  of_arg (BitVec.eq_of_getLsbD_eq fun k hk => by
    simp only [Instr.arg, Instr.argMask, BitVec.getLsbD_and, BitVec.getLsbD_append]
    interval_cases k <;> simp)

theorem gyroInit (range : Word) : Statement (.gyroInit range) := of_arg (BitVec.and_allOnes ..)

theorem gyroCalibrate : Statement .gyroCalibrate := of_arg rfl

theorem gyroSample (dt : Word) : Statement (.gyroSample dt) := of_arg (BitVec.and_allOnes ..)

theorem gyroReset : Statement .gyroReset := of_arg rfl

theorem servoSetHeading (yaw : Word) : Statement (.servoSetHeading yaw) := of_arg (BitVec.and_allOnes ..)

theorem servoSetPulse (pulse : Word) : Statement (.servoSetPulse pulse) := of_arg (BitVec.and_allOnes ..)

theorem servoAngleToPulse (angle : Word) : Statement (.servoAngleToPulse angle) := of_arg (BitVec.and_allOnes ..)

theorem gapFind : Statement .gapFind := of_arg rfl

theorem gapPulseToAngle (pulse : Word) : Statement (.gapPulseToAngle pulse) := of_arg (BitVec.and_allOnes ..)

end Sys2Proof.Laws.CommandWordFormat
end

