-- ==== Sys2Proof/Laws/Servo.lean ====
section
/-!
SUPPORT. Headings: which values are in range, and that an in-range heading always names a table entry, so that
SERVO.SET_HEADING never leaves the ROM.
-/

namespace Sys2Proof

/-- The value of 90.0 and of -90.0. -/
theorem F32.ofInt_ninety : F32.ofInt 90 = .fin false (90 * F32.one) ∧ F32.ofInt (-90) = .fin true (90 * F32.one) := by
  decide +kernel

namespace Machine

/-- The open range of SERVO.SET_HEADING, on values (43_servo.md R181). -/
theorem headingInRange_iff (y : F32) :
    headingInRange y = true ↔ ∃ neg mag, y = .fin neg mag ∧ mag < 90 * F32.one := by
  unfold headingInRange
  rw [F32.ofInt_ninety.1, F32.ofInt_ninety.2]
  cases y with
  | nan => simp [F32.gt, F32.lt, F32.place]
  | inf s => cases s <;> simp [F32.gt, F32.lt, F32.place, F32.limit, F32.one]
  | fin s m =>
    simp only [F32.gt, F32.lt, F32.place]
    cases s <;> simp <;> omega

/-- The table index of a rounded magnitude. -/
def headingIndex (neg : Bool) (n : Nat) : Nat := if neg then 90 - n else 90 + n

/-- The table pulse of a finite heading: the entry of its rounded magnitude (43_servo.md R181). -/
theorem headingPulse_fin (cfg : Config) (neg : Bool) {mag : Nat} (h : mag < 90 * F32.one) :
    (2 * mag + F32.one) / (2 * F32.one) ≤ 90 ∧
      headingPulse cfg (.fin neg mag) =
        cfg.servoTable[headingIndex neg ((2 * mag + F32.one) / (2 * F32.one))]? := by
  have hn : (2 * mag + F32.one) / (2 * F32.one) ≤ 90 := by
    apply Nat.lt_succ_iff.mp
    rw [Nat.div_lt_iff_lt_mul (by simp [F32.one])]
    omega
  refine ⟨hn, ?_⟩
  simp only [headingPulse, F32.roundHalfAway, Option.bind_some, romTable, headingIndex]
  generalize (2 * mag + F32.one) / (2 * F32.one) = n at hn
  cases neg
  · have h1 : (0 : Int) ≤ (n : Int) + 90 := by omega
    have h2 : ((n : Int) + 90).toNat = 90 + n := by omega
    simp [h1, h2]
  · have h1 : (0 : Int) ≤ -(n : Int) + 90 := by omega
    have h2 : (-(n : Int) + 90).toNat = 90 - n := by omega
    simp [h1, h2]

/-- An in-range heading has a table entry. -/
theorem headingPulse_isSome (cfg : Config) {y : F32} (h : headingInRange y = true) :
    ∃ p, headingPulse cfg y = some p := by
  obtain ⟨neg, mag, rfl, hm⟩ := (headingInRange_iff y).mp h
  obtain ⟨hn, hp⟩ := headingPulse_fin cfg neg hm
  have hi : headingIndex neg ((2 * mag + F32.one) / (2 * F32.one)) < 181 := by
    generalize (2 * mag + F32.one) / (2 * F32.one) = n at hn
    unfold headingIndex; split <;> omega
  exact ⟨_, hp.trans (Vector.getElem?_eq_getElem hi)⟩

end Machine
end Sys2Proof
end

