-- ==== Sys2Proof/Laws/Step.lean ====
section
/-!
SUPPORT. The inversion of a step, and what the autonomous phases do to the sequencer.
-/

namespace Sys2Proof.Machine

/-- What a step that answers a state has done: a reset cycle, or phases 2 to 7 in order. -/
theorem step_cases {s t : State} (h : step s = .next t) :
    s.cfg.wf = true ∧
      (((nextInputs s).reset = true ∧ t = resetCycle (beginCycle s)) ∨
        ((nextInputs s).reset = false ∧ ∃ u, sequencerPhase (autonomous (nextInputs s) (beginCycle s)) = .next u ∧
          t = hostPhase (nextInputs s).host u)) := by
  unfold step at h
  split at h
  · rename_i hw
    refine ⟨hw, ?_⟩
    unfold cycleWith at h
    split at h
    · cases h; exact .inl ⟨‹_›, rfl⟩
    · rename_i hr
      refine .inr ⟨by simpa using hr, ?_⟩
      unfold thenHost at h
      split at h <;> cases h
      exact ⟨_, ‹_›, rfl⟩
  · cases h

/-- A step with no reset, forwards: its sequencer phase decides it. -/
theorem step_of_sequencer {s u : State} (hw : s.cfg.wf = true) (hr : (nextInputs s).reset = false)
    (hu : sequencerPhase (autonomous (nextInputs s) (beginCycle s)) = .next u) :
    step s = .next (hostPhase (nextInputs s).host u) := by
  simp [step, hw, cycleWith, hr, hu, thenHost]

/-- The fields that the phases before the sequencer never write, with the beginning of the cycle. -/
theorem atSequencer_currentWord (inp : Inputs) (s : State) :
    currentWord (autonomous inp (beginCycle s)) = currentWord s := by
  simp [currentWord]

/-- The edge phase leaves ECHO_SYNC at the level it sampled. -/
@[simp] theorem edgePhase_echoSync (e : Bool) (s : State) : (edgePhase e s).echoSync = e := by
  unfold edgePhase
  split
  · split <;> rfl
  · simp_all

/-- The edge phase keeps PHASE, ECHO_SYNC and TRUN together (41_echo.md R131). -/
theorem edgePhase_paired (e : Bool) {s : State} (h : s.phase = s.echoSync ∧ s.trun = s.phase) :
    (edgePhase e s).phase = e ∧ (edgePhase e s).trun = e := by
  obtain ⟨h1, h2⟩ := h
  unfold edgePhase
  cases he : e <;> cases hp : s.phase <;> simp_all [fallingEdge, risingEdge]

/-- The edge phase sets ECHO_NEW on a falling level (41_echo.md R123 to R125). -/
theorem edgePhase_echoNew (e : Bool) {s : State} (h : EdgesPaired s) :
    (edgePhase e s).echoNew = (s.echoNew || (s.echoSync && !e)) := by
  obtain ⟨h1, h2⟩ := h
  unfold edgePhase
  cases he : e <;> cases hp : s.phase <;> simp_all [fallingEdge, risingEdge]

/-- Whether a response is accepted decides BUS_PEND and the response that phase 6 sees. -/
theorem busPhase_cases (inp : Inputs) (s : State) :
    (s.busPend.isSome = true ∧ inp.grspValid = true ∧ (busPhase inp s).busPend = none ∧
        (busPhase inp s).busRsp = some ⟨inp.grspStatus, inp.grspData⟩) ∨
      ((s.busPend = none ∨ inp.grspValid = false) ∧ busPhase inp s = s) := by
  unfold busPhase State.busPending
  cases s.busPend <;> cases inp.grspValid <;> simp

/-- A step keeps the configuration and consumes one cycle's inputs, a reset cycle included. -/
theorem step_keeps {s t : State} (h : step s = .next t) :
    t.cfg = s.cfg ∧ t.script = s.script.tail ∧ t.cycle = s.cycle + 1 := by
  obtain ⟨_, ⟨_, rfl⟩ | ⟨_, u, hu, rfl⟩⟩ := step_cases h
  · exact ⟨rfl, rfl, rfl⟩
  · have same := sequencerPhase_same hu
    exact ⟨by simp [same.cfg], by simp [same.script, beginCycle], by simp [same.cycle, beginCycle]⟩

/-- A run is its first step and then the rest. -/
theorem core_run_succ {s t : State} (h : step s = .next t) (k : Nat) : core.run (k + 1) s = core.run k t := by
  have hc : core.step s = .next t := h
  simp only [Host.Core.run, hc]

/-- The inputs of the next cycle are the first of the coming ones. -/
theorem nextInputs_eq (s : State) : nextInputs s = s.inputsAt 0 := by
  unfold nextInputs State.inputsAt
  cases s.script <;> rfl

/-- The inputs coming after a step are those that came one later before it. -/
theorem inputsAt_step {s t : State} (h : step s = .next t) (k : Nat) : t.inputsAt k = s.inputsAt (k + 1) := by
  obtain ⟨_, hs, hc⟩ := step_keeps h
  unfold State.inputsAt
  rw [hs, hc, List.getElem?_tail, Nat.add_right_comm, Nat.add_assoc]

end Sys2Proof.Machine
end

