-- ==== Sys2Proof/Laws/WellFormed.lean ====
section
/-!
SUPPORT. What a well-formed configuration gives: every pulse the block can steer to lies in the physical range
(00_scope.md R8).
-/

namespace Sys2Proof

theorem Config.inRange_iff (c : Config) (p : Half) : c.inRange p = true ↔ c.pulseMin ≤ p ∧ p ≤ c.pulseMax := by
  simp [Config.inRange]

/-- The nine checks of a well-formed configuration. -/
theorem Config.wf_iff (c : Config) :
    c.wf = true ↔ c.wfRange = true ∧ c.wfTable = true ∧ c.wfSweepRange = true ∧ c.wfFixedPulses = true ∧
      c.wfSweepDistinct = true ∧ c.wfReverseConsistent = true ∧ c.wfNonzeroPulses = true ∧ c.wfCal = true ∧
      c.wfGyroVals = true := by
  simp [Config.wf, and_assoc]

/-- The steering pulses of the gap selector are in range (`wf_fixed_pulses`). -/
theorem Config.wf_fixed {c : Config} (h : c.wf = true) :
    c.inRange c.pulseRight = true ∧ c.inRange c.pulseLeft = true ∧ c.inRange c.pulseCenter = true := by
  have := ((Config.wf_iff c).mp h).2.2.2.1
  simpa [Config.wfFixedPulses, and_assoc] using this

/-- Every table pulse is in range (`wf_table`). -/
theorem Config.wf_servoTable {c : Config} (h : c.wf = true) {i : Nat} {p : Half} (hp : c.servoTable[i]? = some p) :
    c.inRange p = true := by
  have ht := ((Config.wf_iff c).mp h).2.1
  rw [Config.wfTable, List.all_eq_true] at ht
  exact ht p (Vector.mem_toList_iff.mpr (Vector.mem_of_getElem? hp))

/-- Every sweep pulse is in range (`wf_sweep_range`). -/
theorem Config.wf_sweep {c : Config} (h : c.wf = true) {k : Nat} {p : SweepPoint} (hp : c.sweep[k]? = some p) :
    c.inRange p.pulse = true ∧ -90 ≤ p.angle ∧ p.angle ≤ 90 := by
  have ht := ((Config.wf_iff c).mp h).2.2.1
  rw [Config.wfSweepRange, List.all_eq_true] at ht
  have := ht p (Vector.mem_toList_iff.mpr (Vector.mem_of_getElem? hp))
  simpa [and_assoc] using this

namespace Machine

/-- The sweep ROM answers at every index up to 6. -/
theorem romSweep_isSome (cfg : Config) {k : BitVec 3} (h : k ≤ lastSweep) : ∃ p, romSweep cfg k = some p := by
  have hk : k.toNat < 7 := by
    have : k.toNat ≤ 6 := BitVec.le_def.mp h
    omega
  exact ⟨_, Vector.getElem?_eq_getElem hk⟩

end Machine
end Sys2Proof
end

