-- ==== Sys2Proof/Laws/Sequencer.lean ====
section
/-!
SUPPORT. The sequencer: every segment that its command has answers a next state, and where a segment can leave it.
-/

namespace Sys2Proof.Machine

/-- The next sweep point of one before the last. -/
theorem succ_le_lastSweep {k : BitVec 3} (h : k < lastSweep) : k + 1#3 ≤ lastSweep := by
  revert k; decide

/-- G4 always answers a next state. -/
theorem gapLeft_next (s : State) : ∃ t, gapLeft s = .next t := by
  unfold gapLeft
  obtain ⟨p, hp⟩ := romSweep_isSome s.cfg (k := 0#3) (by decide)
  split
  · exact ⟨_, rfl⟩
  · rw [hp]; exact ⟨_, rfl⟩

/-- G6 answers a next state at any of the seven sweep points. -/
theorem gapSweep_next {s : State} (h : s.seqK ≤ lastSweep) : ∃ t, gapSweep s = .next t := by
  unfold gapSweep
  obtain ⟨p, hp⟩ := romSweep_isSome s.cfg h
  rw [hp]
  dsimp only
  split
  · rename_i hk
    obtain ⟨q, hq⟩ := romSweep_isSome s.cfg (succ_le_lastSweep hk)
    rw [hq]; exact ⟨_, rfl⟩
  · exact ⟨_, rfl⟩

/-- A segment that its command has always answers a next state. -/
theorem exec_next {i : Instr} {l : Seg} {s : State} (hf : hasSegment i l = true) (hs : s.seqStep = .seg l)
    (hk : s.seqK ≤ lastSweep) : ∃ t, exec i s = .next t := by
  cases i with
  | gapFind =>
    cases l <;> first | (simp [hasSegment] at hf; done) | skip
    all_goals simp only [exec, execGapFind, hs]
    case g4 => exact gapLeft_next s
    case g6 => exact gapSweep_next hk
    all_goals exact ⟨_, rfl⟩
  | servoSetHeading y =>
    cases l <;> first | (simp [hasSegment] at hf; done) | skip
    simp only [exec, execServoSetHeading, hs]
    split
    · obtain ⟨p, hp⟩ := headingPulse_isSome s.cfg ‹_›
      rw [hp]; exact ⟨_, rfl⟩
    · exact ⟨_, rfl⟩
  | gyroInit r =>
    cases hr : rangeOf r <;> cases l <;> simp [hasSegment, hr] at hf <;>
      simp only [exec, execGyroInit, hs, hr] <;> (try split) <;> exact ⟨_, rfl⟩
  | _ =>
    cases l <;> simp [hasSegment] at hf <;>
      simp only [exec, execNop, execEchoTrigger, execEchoRead, execEchoConvert, execGyroCalibrate, execGyroSample,
        execGyroReset, execServoSetPulse, execServoAngleToPulse, execGapPulseToAngle, hs] <;>
      (try split) <;> exact ⟨_, rfl⟩

/-- Where a segment of `i` can leave the sequencer: idle with nothing pending, or at a label of `i` with the request
outstanding that the label waits for. -/
def SeqAfter (i : Instr) (t : State) : Prop :=
  (t.seqStep = .idle ∧ t.busy = false ∧ t.busPend = none) ∨
  ∃ l, t.seqStep = .seg l ∧ hasSegment i l = true ∧ t.busy = true ∧ t.busPend = l.awaits

/-- `finish` leaves it idle. -/
theorem after_finish {i : Instr} {c : Code} {s : State} (h : s.busPend = none) : SeqAfter i (finish c s) :=
  .inl ⟨rfl, rfl, h⟩
/-- `wait` leaves it at the label waited for. -/
theorem after_wait {i : Instr} {n : Nat} {l : Seg} {s : State} (h : s.busPend = none) (hb : s.busy = true)
    (hl : hasSegment i l = true) (ha : l.awaits = none) : SeqAfter i (waitThen n l s) :=
  .inr ⟨l, rfl, hl, hb, by simp [h, ha]⟩

/-- Every segment that runs when it is due leaves the sequencer so. -/
theorem exec_seqAfter {i : Instr} {s t : State} (h : exec i s = .next t) (hp : s.busPend = none)
    (hb : s.busy = true) (hr : ∀ l, s.seqStep = .seg l → l.awaits.isSome = true → s.busRsp.isSome = true) :
    SeqAfter i t := by
  cases i with
  | nop => simp only [exec, execNop] at h; split at h <;> cases h; exact after_finish hp
  | echoTrigger => simp only [exec, execEchoTrigger] at h; split at h <;> cases h; exact after_finish hp
  | echoRead =>
    simp only [exec, execEchoRead] at h; split at h <;> cases h
    · exact .inr ⟨.readS1, rfl, rfl, hb, hp⟩
    · exact after_finish hp
  | echoConvert tc ovf => simp only [exec, execEchoConvert] at h; split at h <;> cases h; exact after_finish hp
  | gyroInit r =>
    simp only [exec, execGyroInit] at h
    have key : ∀ g (u : State), rangeOf r = some g → u.busy = true → SeqAfter (.gyroInit r) (initNext g u) := by
      intro g u hg hu
      unfold initNext
      split <;> exact .inr ⟨_, rfl, by simp [hasSegment, hg], hu, rfl⟩
    split at h
    · cases h; exact after_finish hp
    · cases h; exact key _ _ ‹_› hb
    · rename_i hs _
      split at h
      · rename_i hn; have := hr _ hs rfl; simp [hn] at this
      · cases h
        split
        · exact after_finish hp
        · exact key _ _ ‹_› hb
    · rename_i hs _
      split at h
      · rename_i hn; have := hr _ hs rfl; simp [hn] at this
      · cases h
        split
        · exact after_finish hp
        · exact after_finish hp
    · cases h
  | gyroCalibrate =>
    simp only [exec, execGyroCalibrate] at h
    split at h
    · cases h
      split
      · exact after_finish hp
      · split
        · exact after_finish hp
        · exact .inr ⟨.calC1, rfl, rfl, hb, rfl⟩
    · rename_i hs
      split at h
      · rename_i hn; have := hr _ hs rfl; simp [hn] at this
      · cases h; exact .inr ⟨.calC2, rfl, rfl, hb, hp⟩
    · cases h
      split
      · exact .inr ⟨.calC1, rfl, rfl, hb, rfl⟩
      · exact after_finish hp
    · cases h
  | gyroSample dt =>
    simp only [exec, execGyroSample] at h
    split at h
    · cases h
      split
      · exact after_finish hp
      · exact .inr ⟨.sampleS1, rfl, rfl, hb, rfl⟩
    · rename_i hs
      split at h
      · rename_i hn; have := hr _ hs rfl; simp [hn] at this
      · cases h; exact after_finish hp
    · cases h
  | gyroReset => simp only [exec, execGyroReset] at h; split at h <;> cases h; exact after_finish hp
  | servoSetHeading y =>
    simp only [exec, execServoSetHeading] at h
    split at h
    · split at h
      · split at h <;> cases h; exact after_finish (by simpa using hp)
      · cases h; exact after_finish hp
    · cases h
  | servoSetPulse p =>
    simp only [exec, execServoSetPulse] at h
    split at h <;> cases h
    split
    · exact after_finish (by simpa using hp)
    · exact after_finish hp
  | servoAngleToPulse a =>
    simp only [exec, execServoAngleToPulse] at h
    split at h
    · split at h <;> cases h <;> exact after_finish hp
    · cases h
  | gapFind =>
    simp only [exec, execGapFind] at h
    split at h
    · cases h; exact after_wait (by simpa using hp) (by simpa using hb) rfl rfl
    · cases h; exact .inr ⟨.g2, rfl, rfl, hb, hp⟩
    · cases h; unfold gapRight; split <;> exact after_wait (by simpa [gapSelect, gapMeasure] using hp)
        (by simpa [gapSelect, gapMeasure] using hb) rfl rfl
    · cases h; exact .inr ⟨.g4, rfl, rfl, hb, hp⟩
    · unfold gapLeft at h
      split at h
      · cases h; exact after_wait (by simpa [gapSelect, gapMeasure] using hp)
          (by simpa [gapSelect, gapMeasure] using hb) rfl rfl
      · split at h <;> cases h
        exact after_wait (by simpa [gapSelect, gapMeasure] using hp)
            (by simpa [gapSelect, gapMeasure] using hb) rfl rfl
    · cases h; exact .inr ⟨.g6, rfl, rfl, hb, hp⟩
    · unfold gapSweep at h
      dsimp only at h
      split at h
      · cases h
      · split at h
        · split at h <;> cases h
          exact after_wait (by simpa [gapSelect, gapMeasure] using hp)
              (by simpa [gapSelect, gapMeasure] using hb) rfl rfl
        · cases h
          exact after_wait (by simpa [gapSelect, gapMeasure] using hp)
              (by simpa [gapSelect, gapMeasure] using hb) rfl rfl
    · cases h; exact after_finish hp
    · cases h
  | gapPulseToAngle p =>
    simp only [exec, execGapPulseToAngle] at h
    split at h
    · split at h <;> cases h <;> exact after_finish hp
    · cases h

/-- The trigger count after a segment: 20 where the segment loads it, else unchanged. -/
theorem exec_trigCnt {i : Instr} {l : Seg} {s t : State} (h : exec i s = .next t) (hs : s.seqStep = .seg l) :
    t.trigCnt = if loadsTrigger i l then 20#8 else s.trigCnt := by
  have key (g : GyroRange) (u : State) : (initNext g u).trigCnt = u.trigCnt := by
    unfold initNext; split <;> rfl
  cases i <;> cases l <;>
    simp only [exec, execNop, execEchoTrigger, execEchoRead, execEchoConvert, execGyroInit, execGyroCalibrate,
      execGyroSample, execGyroReset, execServoSetHeading, execServoSetPulse, execServoAngleToPulse, execGapFind,
      execGapPulseToAngle, gapLeft, gapSweep, hs] at h <;>
    (repeat' split at h) <;> cases h <;> (repeat' split) <;>
    simp_all [loadsTrigger, gapStart, gapRight, gapEnd, gapMeasure, gapSelect, gapCenter, steerThen, measureStart,
      trigCycles, initFail, calSample, calFinish, busRead, sampleIntegrate]
  split <;> simp

/-- A segment that starts with no request, on the lines or outstanding, drives one exactly when it leaves one
outstanding, and of its kind. -/
theorem exec_greq {i : Instr} {s t : State} (h : exec i s = .next t) (hp : s.busPend = none) (hg : s.greq = none) :
    t.greq.map GyroRequest.kind = t.busPend := by
  have key (g : GyroRange) (u : State) : (initNext g u).greq.map GyroRequest.kind = (initNext g u).busPend := by
    unfold initNext; split <;> rfl
  cases i <;>
    simp only [exec, execNop, execEchoTrigger, execEchoRead, execEchoConvert, execGyroInit, execGyroCalibrate,
      execGyroSample, execGyroReset, execServoSetHeading, execServoSetPulse, execServoAngleToPulse, execGapFind,
      execGapPulseToAngle, gapLeft, gapSweep] at h <;>
    (repeat' split at h) <;> cases h <;>
    simp_all [gapStart, gapRight, gapEnd, gapMeasure, gapSelect, gapCenter, steerThen, initFail, calSample, calFinish,
      busRead, sampleIntegrate]
  split <;> simp_all

end Sys2Proof.Machine
end

