-- ==== Sys2Proof/Tests/Slice0.lean ====
section
/-!
SUPPORT. Tests. Expected values are the vectors of 95_test_vectors.md (named K, E, H, S, G there) or hand calculation
from the rule cited. Then a named witness for the premises of every obligation that has premises.
-/

namespace Sys2Proof.Tests

open Sys2Proof.Machine

-- One test after another: each evaluation holds a thread with a large stack, and many at once exceed the memory limit.
set_option Elab.async false

/-! ### Helpers -/

/-- The state of an answer, where it is one. -/
def stateOf : Host.Outcome State Fault Refusal → Option State
  | .next t => some t
  | .fault _ => none
  | .refused _ => none

/-- An answer that holds a state is that next state. -/
theorem next_of_some {o : Host.Outcome State Fault Refusal} (h : (stateOf o).isSome = true) : ∃ t, o = .next t := by
  cases o with
  | next t => exact ⟨t, rfl⟩
  | fault r => simp [stateOf] at h
  | refused r => simp [stateOf] at h

/-- One field of the next state, where there is one. -/
def get {α : Type} (f : State → α) (o : Host.Outcome State Fault Refusal) : Option α :=
  (stateOf o).map f

/-- The block with EX1 in the middle of a command, at a label, with a quiet cycle to come. -/
def at' (i : Instr) (l : Seg) : State :=
  { State.reset with
    curOp := i.cmdOp, curArg := i.arg, busy := true, seqStep := .seg l, busPend := l.awaits
    script := [quietInputs false] }

/-- The same, initialised for 250 degrees per second. -/
def ready (i : Instr) (l : Seg) : State :=
  { at' i l with initOk := true, gyroRange := 250#32 }

/-- A bus response accepted in this cycle. -/
def answer (status : Byte) (b : SixBytes) (s : State) : State :=
  { s with busPend := none, busRsp := some ⟨status, b⟩ }

/-- No data. -/
def zeros : SixBytes := ⟨0#8, 0#8, 0#8, 0#8, 0#8, 0#8⟩

/-- The answer of the command at its first segment. -/
def first (i : Instr) : Host.Outcome State Fault Refusal := exec i (at' i .s0)

/-! ### Decoding: words written out from 30_encoding.md R80, R82 and R83, field by field (OPC, RSV, ARG) -/

/-- OPC 0x00, the `none` form. -/
theorem test_decode_nop : decode 0x00_000000_00000000#64 = .ok .nop := by decide

/-- OPC 0x01, the `none` form, with ARG bits that it ignores (R86, K7). -/
theorem test_decode_echoTrigger : decode 0x01_000000_12345678#64 = .ok .echoTrigger := by decide

/-- OPC 0x02, the `none` form. -/
theorem test_decode_echoRead : decode 0x02_000000_00000000#64 = .ok .echoRead := by decide

/-- OPC 0x03: tc = ARG[7:0], ovf = ARG[23:8], ARG[31:24] ignored (R82). -/
theorem test_decode_echoConvert : decode 0x03_000000_AB123474#64 = .ok (.echoConvert 0x74#8 0x1234#16) := by decide

/-- OPC 0x10, the `u32` form. -/
theorem test_decode_gyroInit : decode 0x10_000000_000007D0#64 = .ok (.gyroInit 2000#32) := by decide

/-- OPC 0x11, the `none` form. -/
theorem test_decode_gyroCalibrate : decode 0x11_000000_00000000#64 = .ok .gyroCalibrate := by decide

/-- OPC 0x12, the `f32` form. -/
theorem test_decode_gyroSample : decode 0x12_000000_3CA3D70A#64 = .ok (.gyroSample 0x3CA3D70A#32) := by decide

/-- OPC 0x13, the `none` form. -/
theorem test_decode_gyroReset : decode 0x13_000000_00000000#64 = .ok .gyroReset := by decide

/-- OPC 0x20, the `f32` form. -/
theorem test_decode_servoSetHeading : decode 0x20_000000_C1480000#64 = .ok (.servoSetHeading 0xC1480000#32) := by decide

/-- OPC 0x21, the `u32` form. -/
theorem test_decode_servoSetPulse : decode 0x21_000000_000105DC#64 = .ok (.servoSetPulse 0x000105DC#32) := by decide

/-- OPC 0x22, the `s32` form. -/
theorem test_decode_servoAngleToPulse :
    decode 0x22_000000_FFFFFFFF#64 = .ok (.servoAngleToPulse (BitVec.ofInt 32 (-1))) := by decide

/-- OPC 0x30, the `none` form. -/
theorem test_decode_gapFind : decode 0x30_000000_00000000#64 = .ok .gapFind := by decide

/-- OPC 0x31, the `u32` form. -/
theorem test_decode_gapPulseToAngle : decode 0x31_000000_000007D0#64 = .ok (.gapPulseToAngle 2000#32) := by decide

/-- RSV ≠ 0 is illegal at its lowest and its highest bit, with an assigned opcode and without (R85; K3). -/
theorem test_decode_reserved :
    decode 0x02_000001_00000000#64 = .error .reservedBits ∧ decode 0x02_800000_00000000#64 = .error .reservedBits ∧
      decode 0xFF_000001_00000000#64 = .error .reservedBits := by decide

/-- The opcodes at the edges of R85's four unassigned ranges (K4, K6). -/
theorem test_decode_unassigned :
    [0x04#8, 0x0F#8, 0x14#8, 0x1F#8, 0x23#8, 0x2F#8, 0x32#8, 0xFF#8].all
      (fun o => decide (decode (commandWord (o ++ 0#24) 0#32) = .error .unassignedOpcode)) = true := by decide

/-- The opcode table's numbering, and a word with a bit above `nbits` cut off. -/
theorem test_decodeTableWord :
    decodeTableWord 64 0x0300000000000174 = some (.echoConvert 116#8 1#16) ∧
      decodeTableWord 64 0x0400000000000000 = none ∧
      decodeTableWord 32 0x0300000000000174 = some .nop := by decide

/-- The first step after reset runs a placed word: its STATUS is SERVO.SET_PULSE's (S19). -/
theorem test_withFetchWord :
    get State.statusWord (step (State.reset.withFetchWord 64 0x21000000000005DC)) = some 0x00210000#32 := by
  decide +kernel

/-! ### Well-formedness: EX1 passes, and an ill-formed term for each check -/

/-- EX1 passes every check (95_test_vectors.md section 1). -/
theorem test_ex1_wf : Config.ex1.wf = true := by decide +kernel

/-- EX1's table at the angles listed in 95_test_vectors.md section 1. -/
theorem test_ex1_table :
    [(-90, 1000#16), (-89, 1006#16), (-60, 1167#16), (-45, 1250#16), (-13, 1428#16), (-1, 1495#16), (0, 1500#16),
      (1, 1505#16), (13, 1572#16), (46, 1755#16), (89, 1994#16), (90, 2000#16)].all
      (fun p : Int × Half => decide (romTable Config.ex1 (p.1 + 90) = some p.2)) = true := by decide +kernel

theorem test_wfRange_refuses : ({ Config.ex1 with pulseMid := 2001#16 } : Config).wfRange = false := by decide

theorem test_wfTable_refuses :
    ({ Config.ex1 with servoTable := Config.ex1.servoTable.set 180 2001#16 } : Config).wfTable = false := by
  decide +kernel

theorem test_wfSweepRange_refuses :
    ({ Config.ex1 with sweep := Config.ex1.sweep.set 6 ⟨91, 2000#16⟩ } : Config).wfSweepRange = false := by decide

theorem test_wfFixedPulses_refuses :
    ({ Config.ex1 with pulseCenter := 999#16 } : Config).wfFixedPulses = false := by decide

theorem test_wfSweepDistinct_refuses :
    ({ Config.ex1 with sweep := Config.ex1.sweep.set 6 ⟨90, 1000#16⟩ } : Config).wfSweepDistinct = false := by decide

theorem test_wfReverseConsistent_refuses :
    ({ Config.ex1 with angleRight := .minus90 } : Config).wfReverseConsistent = false ∧
      ({ Config.ex1 with pulseRight := 1000#16 } : Config).wfReverseConsistent = false := by decide

theorem test_wfNonzeroPulses_refuses :
    ({ Config.ex1 with pulseMin := 0#16 } : Config).wfNonzeroPulses = false := by decide

theorem test_wfCal_refuses :
    ({ Config.ex1 with calN := 0 } : Config).wfCal = false ∧
      ({ Config.ex1 with calN := 65536 } : Config).wfCal = false := by decide

theorem test_wfGyroVals_refuses : ({ Config.ex1 with gyroDev := 128#8 } : Config).wfGyroVals = false := by decide

/-- An assembler refuses an operand that does not fit its form (30_encoding.md R88). -/
theorem test_assemble_refuses :
    ["ECHO.CONVERT 256, 0", "ECHO.CONVERT 0, 65536", "ECHO.CONVERT 116", "GYRO.INIT -1", "GYRO.INIT 4294967296",
      "SERVO.ANGLE_TO_PULSE 2147483648", "SERVO.ANGLE_TO_PULSE -2147483649", "NOP 0", "GYRO.INIT", "GYRO.SAMPLE 0.",
      "GYRO.INIT 0x", "ECHO.FIRE"].all (fun l => decide (assembleLine l = none)) = true := by decide +kernel

/-- The examples of 30_encoding.md R88, a raw pattern, a hex literal and a negative decimal among them. -/
theorem test_assemble :
    assembleLine "SERVO.ANGLE_TO_PULSE -1" = some (.servoAngleToPulse 0xFFFFFFFF#32) ∧
      assembleLine "GYRO.SAMPLE f32:0x3CA3D70A" = some (.gyroSample 0x3CA3D70A#32) ∧
      assembleLine "GYRO.INIT 0xFA" = some (.gyroInit 250#32) ∧
      assembleLine "SERVO.SET_HEADING -12.5" = some (.servoSetHeading 0xC1480000#32) := by decide +kernel

/-! ### The commands, one step each -/

/-- K1: NOP finishes OK. -/
theorem test_nop : get (fun t => (t.statusWord, t.busy)) (first .nop) = some (0x00000000#32, false) := by decide

/-- K3: an illegal word finishes ILLEGAL with its opcode in LAST_OPC, and no trigger pulse. -/
theorem test_illegal :
    get (fun t => (t.statusWord, t.trigOut)) (runSegment { at' .nop .s0 with curOp := 0x02000001#32 }) =
      some (0x00020010#32, false) := by decide

/-- K7: ECHO.TRIGGER raises TRIG_OUT. -/
theorem test_echoTrigger :
    get (fun t => (t.statusWord, t.trigOut)) (first .echoTrigger) = some (0x00010000#32, true) := by decide

/-- P1: the fresh read of a 20 cm echo. -/
theorem test_echoRead_fresh :
    get (fun t => (t.result, t.dist, t.statusWord))
      (exec .echoRead { at' .echoRead .readS1 with duration := 1160#32, echoNew := true }) =
      some (20#32, 20#32, 0x00020000#32) := by decide

/-- E23: the stale read after reset. -/
theorem test_echoRead_stale :
    get (fun t => (t.result, t.statusWord)) (exec .echoRead (at' .echoRead .readS1)) =
      some (0#32, 0x000200B0#32) := by decide

/-- E2: the overflow is folded in before dividing. -/
theorem test_echoConvert_overflow :
    get (fun t => (t.result, t.statusWord)) (first (.echoConvert 116#8 1#16)) = some (3#32, 0x00030000#32) := by decide

/-- E8: the largest distance. -/
theorem test_echoConvert_largest :
    get State.result (first (.echoConvert 255#8 65535#16)) = some 144631#32 := by decide

/-- H1: the answer to the range write completes GYRO.INIT 250. -/
theorem test_gyroInit_completes :
    get (fun t => (t.gyroSens, t.gyroRange, t.statusWord))
      (exec (.gyroInit 250#32) (answer 0#8 zeros (at' (.gyroInit 250#32) .initRW))) =
      some (0x43030000#32, 250#32, 0x00100400#32) := by decide

/-- H6: the whole 32 bits of the range are checked, and no request is made. -/
theorem test_gyroInit_invalid :
    get (fun t => (t.greq, t.statusWord)) (first (.gyroInit 0x000100FA#32)) = some (none, 0x00100120#32) := by decide

/-- H24: GYRO.CALIBRATE from reset. -/
theorem test_gyroCalibrate_notInit : get State.statusWord (first .gyroCalibrate) = some 0x00110040#32 := by decide

/-- H21 and H22: the sums of four samples, divided once. -/
theorem test_gyroCalibrate_mean :
    get (fun t => (t.gyroOffX, t.gyroOffY, t.calDone))
      (exec .gyroCalibrate
        { ready .gyroCalibrate .calC2 with seqI := 4#16, calSumX := 0x3EB3C948#32, calSumY := 0xBE3B9A62#32 }) =
      some (0x3DB3C948#32, 0xBD3B9A62#32, true) := by decide +kernel

/-- H16: one sample of z = 655 with dt = 0.02. -/
theorem test_gyroSample_first :
    get (fun t => (t.headRoll, t.headYaw))
      (exec (.gyroSample 0x3CA3D70A#32) (answer 0#8 ⟨0#8, 0#8, 0#8, 0#8, 0x02#8, 0x8F#8⟩
        (ready (.gyroSample 0x3CA3D70A#32) .sampleS1))) = some (0x00000000#32, 0x3DCCCCCC#32) := by decide +kernel

/-- H31: the same step back gives +0.0. -/
theorem test_gyroSample_back :
    get State.headYaw
      (exec (.gyroSample 0xBCA3D70A#32) (answer 0#8 ⟨0#8, 0#8, 0#8, 0#8, 0x02#8, 0x8F#8⟩
        { ready (.gyroSample 0xBCA3D70A#32) .sampleS1 with headYaw := 0x3DCCCCCC#32 })) = some 0x00000000#32 := by
  decide +kernel

/-- H32: GYRO.RESET from a yaw, a NaN and a negative zero. -/
theorem test_gyroReset :
    get (fun t => (t.headRoll, t.headPitch, t.headYaw, t.statusWord))
      (exec .gyroReset
        { at' .gyroReset .s0 with headRoll := 0x7FC00000#32, headPitch := 0x80000000#32, headYaw := 0x409FFFFB#32 }) =
      some (0#32, 0#32, 0#32, 0x00130000#32) := by decide

/-- S6: half a degree rounds away from zero. -/
theorem test_servoSetHeading_half :
    get (fun t => (t.servoPulse, t.result, t.pwmWrites, t.pwmWr)) (first (.servoSetHeading 0x41480000#32)) =
      some (1572#16, 1572#32, 1#32, true) := by decide +kernel

/-- S13: 90.0 is out of range, and nothing is written. -/
theorem test_servoSetHeading_edge :
    get (fun t => (t.statusWord, t.servoPulse, t.pwmWrites)) (first (.servoSetHeading 0x42B40000#32)) =
      some (0x00200060#32, 0#16, 0#32) := by decide +kernel

/-- S21: PULSE_MAX is in range. -/
theorem test_servoSetPulse_max :
    get (fun t => (t.servoPulse, t.pwmWrites, t.statusWord)) (first (.servoSetPulse 2000#32)) =
      some (2000#16, 1#32, 0x00210000#32) := by decide

/-- S25: the whole 32 bits are compared. -/
theorem test_servoSetPulse_wide :
    get (fun t => (t.servoPulse, t.statusWord)) (first (.servoSetPulse 0x000105DC#32)) =
      some (0#16, 0x00210070#32) := by decide

/-- S34: the second segment of the map. -/
theorem test_servoAngleToPulse_upper :
    get (fun t => (t.result, t.pwmWr)) (first (.servoAngleToPulse 135#32)) = some (1747#32, false) := by decide

/-- S38: a negative angle is outside the domain. -/
theorem test_servoAngleToPulse_negative :
    get (fun t => (t.result, t.statusWord)) (first (.servoAngleToPulse 0xFFFFFFFF#32)) =
      some (0#32, 0x00220080#32) := by decide

/-- G2: the left measurement of 50 cm ends the search early, re-centred. -/
theorem test_gapFind_left :
    get (fun t => (t.gapSel, t.gapMaxd, t.gapInfoWord, t.servoPulse))
      (exec .gapFind { at' .gapFind .g4 with duration := 2900#32, echoNew := true }) =
      some (1000#16, 50#32, 0x00000072#32, 1500#16) := by decide

/-- G8: a sweep in which no point won ends NO_GAP. -/
theorem test_gapFind_noGap :
    get (fun t => (t.result, t.gapInfoWord, t.statusWord))
      (exec .gapFind { at' .gapFind .ge with gapPath := .sweep, gapStaleAny := true }) =
      some (0#32, 0x00000173#32, 0x00300090#32) := by decide

/-- G21: PULSE_LEFT is -90 degrees. -/
theorem test_gapPulseToAngle_left :
    get State.result (first (.gapPulseToAngle 1000#32)) = some 0xFFFFFFA6#32 := by decide

/-- G29: the whole 32 bits are compared. -/
theorem test_gapPulseToAngle_wide :
    get (fun t => (t.result, t.statusWord)) (first (.gapPulseToAngle 0x000107D0#32)) =
      some (0#32, 0x003100A0#32) := by decide

/-! ### Operands and phases -/

/-- H11 to H15d: the scaled rates. -/
theorem test_scaled :
    [((655 : Int), 0x43030000#32, 0x40A00000#32), (1, 0x43030000#32, 0x3BFA232D#32),
      (32767, 0x43030000#32, 0x437A2139#32), (-32768, 0x43030000#32, 0xC37A232D#32),
      (-1, 0x42830000#32, 0xBC7A232D#32), (100, 0x42033333#32, 0x40431F38#32),
      (32767, 0x41833333#32, 0x44F9BF9C#32), (-32768, 0x41833333#32, 0xC4F9C190#32)].all
      (fun v => decide ((scaled v.2.1 v.1).toBits 0#32 = v.2.2)) = true := by decide +kernel

/-- The six bytes of 95_test_vectors.md section 3.3 in both byte orders. -/
theorem test_byte_order :
    let b : SixBytes := ⟨0x00#8, 0x0A#8, 0xFF#8, 0xFA#8, 0x02#8, 0x8F#8⟩
    let little : Config := { Config.ex1 with gyroBigEndian := false }
    (rawX Config.ex1 b, rawY Config.ex1 b, rawZ Config.ex1 b) = (10, -6, 655) ∧
      (rawX little b, rawY little b, rawZ little b) = (2560, -1281, -28926) := by decide

/-- E16: the falling edge of a 20 cm echo, raw 2320 = 9 × 256 + 16. -/
theorem test_falling_edge :
    (edgePhase false
      { State.reset with tcnt := 16#8, ovf := 9#16, trun := true, phase := true, echoSync := true }).echoStateWord =
      0x00091002#32 := by decide

/-- E22: the count wraps and the overflow is counted in the same phase. -/
theorem test_timer_wrap :
    (timerTick { State.reset with trun := true, tcnt := 255#8 }).echoStateWord = 0x00010004#32 := by decide

/-- K11: dead addresses read 0, where STATUS would not. -/
theorem test_dead_addresses :
    (hostRead { State.reset with ovr := true } 0x02#8, hostRead { State.reset with ovr := true } 0x50#8,
      hostRead { State.reset with ovr := true } 0x08#8) = (0#32, 0#32, 0x00000200#32) := by decide

/-! ### Witnesses: for every obligation with premises, a state and operands that meet them together -/

/-- A quiet cycle, and one with the echo high, a host access or a reset. -/
def quiet : Inputs := quietInputs false

/-- A cycle in which the host accesses a register. -/
def hostCycle (a : HostAccess) : Inputs := { quiet with host := a }

/-- A cycle with RESET = 1. -/
def resetInputs : Inputs := { quiet with reset := true }

/-- The block idle after reset, with the inputs of its next cycles. -/
def idleWith (l : List Inputs) : State := { State.reset with script := l }

/-- A step of it answers a state. -/
def steps (s : State) : Bool := (stateOf (step s)).isSome

theorem step_of_steps {s : State} (h : steps s = true) : ∃ t, step s = .next t := next_of_some h

/-- A cycle with a bus response of the status given and no data. -/
def responded (status : Byte) : Inputs := { quiet with grspValid := true, grspStatus := status }

/-- A script of quiet cycles has no reset in them. -/
theorem noReset_quiet (n : Nat) (s : State) : noResetFor n { s with script := List.replicate n quiet } := by
  intro k hk
  simp [State.inputsAt, hk, quiet, quietInputs]

theorem test_premises_DecodeAndEncodeAgree :
    decode 0x03_000000_AB123474#64 = .ok (.echoConvert 0x74#8 0x1234#16) := by decide

theorem test_premises_EveryWordSelectsACommandOrIllegal :
    ((0x31000000#32).extractLsb' 0 24 = 0#24 ∧ (0x31000000#32).extractLsb' 24 8 ∈ opcodeMap) ∧
    ((0x32000000#32).extractLsb' 0 24 = 0#24 ∧ (0x32000000#32).extractLsb' 24 8 ∉ opcodeMap) ∧
    (0x31000001#32).extractLsb' 0 24 ≠ 0#24 := by decide

theorem test_premises_StepRunsTheLatchedCommand :
    let s := at' .echoTrigger .s0
    s.cfg.wf = true ∧ (nextInputs s).reset = false ∧ decode (currentWord s) = .ok .echoTrigger ∧
      dueSegment (atSequencer s) = some .s0 := by decide +kernel

theorem test_premises_StepRunsTheLatchedCommand_waiting :
    let s := { at' .echoRead .readS1 with seqWait := 1#32 }
    s.cfg.wf = true ∧ (nextInputs s).reset = false ∧ dueSegment (atSequencer s) = none := by decide +kernel

/-- K3's word, due. -/
theorem test_premises_StepRunsTheLatchedCommand_illegal :
    let s := { at' .nop .s0 with curOp := 0x02000001#32 }
    s.cfg.wf = true ∧ (nextInputs s).reset = false ∧ decode (currentWord s) = .error .reservedBits ∧
      dueSegment (atSequencer s) = some .s0 := by decide +kernel

theorem test_premises_PlacedWordRunsInTheNextStep :
    State.reset.cfg.wf = true ∧ decode 0x30_000000_00000000#64 = .ok .gapFind := by decide +kernel

theorem test_premises_MalformedConfigurationIsRefused :
    ({ State.reset with cfg := { Config.ex1 with calN := 0 } } : State).cfg.wf = false := by decide +kernel

theorem test_premises_ResetCycleRestoresEveryRegister :
    let s := { at' .gapFind .g5 with script := [resetInputs] }
    s.cfg.wf = true ∧ (nextInputs s).reset = true := by decide +kernel

/-- A sample request outstanding: the invariant of the block, and a step. -/
theorem test_premises_StepKeepsTheInvariant :
    BlockInv (ready (.gyroSample 0#32) .sampleS1) ∧ ∃ t, step (ready (.gyroSample 0#32) .sampleS1) = .next t :=
  ⟨⟨⟨rfl, rfl⟩, ⟨rfl, by decide, rfl⟩, .inr ⟨.dps250, rfl, rfl⟩, ⟨.inl rfl, by decide⟩, by
    unfold CountersFit; decide, rfl⟩, step_of_steps (by decide +kernel)⟩

theorem test_premises_StepKeepsTheGapTable :
    let s := { at' .gapFind .g6 with gapPath := .sweep, seqK := 6#3, gapSel := 1000#16, gapMaxd := 30#32, gapIdx := 0#3 }
    GapInv s ∧ ∃ t, step s = .next t :=
  ⟨⟨.inr ⟨⟨-90, 1000#16⟩, rfl, rfl, by decide⟩, rfl, by decide⟩, step_of_steps (by decide +kernel)⟩

theorem test_premises_NoInputStopsTheBlock :
    (ready (.gyroSample 0#32) .sampleS1).cfg.wf = true ∧ BlockInv (ready (.gyroSample 0#32) .sampleS1) :=
  ⟨by decide +kernel, test_premises_StepKeepsTheInvariant.1⟩

/-- A response that is waited for, none, and one that is not waited for. -/
theorem test_premises_AutonomousPhasesFrame :
    ((at' .gyroCalibrate .calC1).busPend.isSome = true ∧ (responded 0#8).grspValid = true) ∧
      quiet.grspValid = false ∧ State.reset.busPend = none := by decide

/-- The end of a run: the block at rest with the timer running, and a cycle in which nothing happens. -/
theorem test_premises_EndedRunStaysEnded :
    let s := { State.reset with trun := true, phase := true, echoSync := true, script := [quietInputs true] }
    Quiescent s ∧ (nextInputs s).reset = false ∧ (nextInputs s).host = .none ∧ (∃ t, step s = .next t) ∧
      (nextInputs s).echoIn = s.echoSync :=
  ⟨⟨rfl, rfl, rfl, rfl⟩, rfl, rfl, step_of_steps (by decide +kernel), rfl⟩

/-- The timer stopped as well. -/
theorem test_premises_EndedRunStaysEnded_stopped :
    let s := idleWith [quiet]
    Quiescent s ∧ (nextInputs s).host = .none ∧ (∃ t, step s = .next t) ∧ (nextInputs s).echoIn = s.echoSync ∧
      s.trun = false :=
  ⟨⟨rfl, rfl, rfl, rfl⟩, rfl, step_of_steps (by decide +kernel), rfl, rfl⟩

/-- A running timer at its wrap, and a stopped one. -/
theorem test_premises_TimerCountsEveryTick :
    ({ State.reset with trun := true, tcnt := 255#8, ovf := 65535#16 } : State).trun = true ∧
      State.reset.trun = false := by decide

/-- ECHO.TRIGGER's segment due. -/
theorem test_premises_TriggerPulseLastsTwentyCycles_load :
    let s := at' .echoTrigger .s0
    (nextInputs s).reset = false ∧ (∃ t, step s = .next t) ∧ dueSegment (atSequencer s) = some .s0 ∧
      decode (currentWord s) = .ok .echoTrigger ∧ loadsTrigger .echoTrigger .s0 = true :=
  ⟨rfl, step_of_steps (by decide +kernel), by decide +kernel, by decide, rfl⟩

/-- The count just loaded, in an idle block with 21 quiet cycles to come. -/
def pulsing : State := { State.reset with trigCnt := 20#8, script := List.replicate 21 quiet }

/-- It stays idle in them. -/
theorem pulsing_idle : (List.range 21).all (fun j => get State.seqStep (core.run j pulsing) == some .idle) = true := by
  decide +kernel

/-- The whole pulse and one cycle more: no segment is due in any of them, so none loads the count again. -/
theorem test_premises_TriggerPulseLastsTwentyCycles :
    pulsing.cfg.wf = true ∧ BlockInv pulsing ∧ pulsing.trigCnt = 20#8 ∧ noResetFor 21 pulsing ∧
      ∀ (j : Nat) (u : State) (i : Instr) (l : Seg), j < 21 → core.run j pulsing = .next u →
        dueSegment (atSequencer u) = some l → decode (currentWord u) = .ok i → loadsTrigger i l = false := by
  refine ⟨test_ex1_wf, ⟨⟨rfl, rfl⟩, ⟨rfl, rfl⟩, .inl ⟨rfl, rfl, rfl⟩, ⟨.inl rfl, by decide⟩, by
    unfold CountersFit; decide, trivial⟩, rfl, noReset_quiet 21 _, fun j u i l hj hu hd => ?_⟩
  have h := List.all_eq_true.mp pulsing_idle j (List.mem_range.mpr hj)
  rw [hu] at h
  have hi : u.seqStep = .idle := by simpa [get, stateOf] using h
  have hs : (atSequencer u).seqStep = .idle := by simp [atSequencer, hi]
  simp [dueSegment, hs] at hd

/-- No edge, a rising one and a falling one. -/
theorem test_premises_EdgeHandlers :
    false = State.reset.echoSync ∧ (true ≠ State.reset.echoSync ∧ State.reset.phase = false) ∧
      let s := { State.reset with echoSync := true, phase := true }
      false ≠ s.echoSync ∧ s.phase = true := by decide

/-- A rising edge just handled, and the line low again after `d` cycles. -/
def risen (l : List Inputs) : State :=
  { State.reset with phase := true, echoSync := true, trun := true, script := l }

/-- The shortest pulse. -/
theorem test_premises_EchoDurationIsThePulseLength :
    let s := risen [quiet]
    s.cfg.wf = true ∧ BlockInv s ∧ 0 < 1 ∧ s.phase = true ∧ s.tcnt = 0#8 ∧ s.ovf = 0#16 ∧ noResetFor 1 s ∧
      (∀ k, k + 1 < 1 → (s.inputsAt k).echoIn = true) ∧ (s.inputsAt (1 - 1)).echoIn = false :=
  ⟨by decide +kernel,
    ⟨⟨rfl, rfl⟩, ⟨rfl, rfl⟩, .inl ⟨rfl, rfl, rfl⟩, ⟨.inl rfl, by decide⟩, by unfold CountersFit; decide, trivial⟩,
    by decide, rfl, rfl, rfl, noReset_quiet 1 (risen []), by omega, rfl⟩

/-- A pulse of three cycles. -/
theorem test_premises_EchoDurationIsThePulseLength_three :
    let s := risen [quietInputs true, quietInputs true, quiet]
    noResetFor 3 s ∧ (∀ k, k + 1 < 3 → (s.inputsAt k).echoIn = true) ∧ (s.inputsAt (3 - 1)).echoIn = false := by
  refine ⟨?_, ?_, rfl⟩
  · intro k hk; interval_cases k <;> rfl
  · intro k hk
    have : k < 2 := by omega
    interval_cases k <;> rfl

/-- A rising edge is no falling one. -/
theorem test_premises_DurationChangesOnlyAtAFallingEdge :
    let s := idleWith [quietInputs true]
    (nextInputs s).reset = false ∧ (∃ t, step s = .next t) ∧
      ¬ ((nextInputs s).echoIn ≠ s.echoSync ∧ s.phase = true) :=
  ⟨rfl, step_of_steps (by decide +kernel), by decide⟩

/-- A wait of two cycles, and one already over. -/
theorem test_premises_CountedWaitEndsOnTime (n : Nat) (hn : n < 3) :
    let s := { at' .echoRead .readS1 with seqWait := BitVec.ofNat 32 n, script := List.replicate n quiet }
    s.cfg.wf = true ∧ s.busy = true ∧ s.seqStep = .seg .readS1 ∧ Seg.readS1.awaits = none ∧
      noResetFor s.seqWait.toNat s := by
  refine ⟨test_ex1_wf, rfl, rfl, rfl, ?_⟩
  have h : (BitVec.ofNat 32 n).toNat = n := by simp; omega
  show noResetFor (BitVec.ofNat 32 n).toNat _
  rw [h]
  exact noReset_quiet n { at' .echoRead .readS1 with seqWait := BitVec.ofNat 32 n }

theorem test_premises_SilentBusHangsTheCommand :
    let s := { ready .gyroCalibrate .calC1 with script := List.replicate 2 quiet }
    s.cfg.wf = true ∧ s.busy = true ∧ s.seqStep = .seg .calC1 ∧ Seg.calC1.awaits.isSome = true ∧ noResetFor 2 s ∧
      ∀ k, k < 2 → (s.inputsAt k).grspValid = false :=
  ⟨test_ex1_wf, rfl, rfl, rfl, noReset_quiet 2 (ready .gyroCalibrate .calC1), by decide⟩

/-- A response to a read, with the invariant and a step. -/
theorem test_premises_SilentBusHangsTheCommand_response :
    let s := { ready (.gyroSample 0#32) .sampleS1 with script := [responded 0#8] }
    s.seqStep = .seg .sampleS1 ∧ Seg.sampleS1.awaits.isSome = true ∧ s.busPend.isSome = true ∧
      (nextInputs s).grspValid = true ∧ (nextInputs s).reset = false ∧ (∃ t, step s = .next t) ∧ BlockInv s ∧
      dueSegment (atSequencer s) ≠ none :=
  ⟨rfl, rfl, rfl, rfl, rfl, step_of_steps (by decide +kernel),
    ⟨⟨rfl, rfl⟩, ⟨rfl, by decide, rfl⟩, .inr ⟨.dps250, rfl, rfl⟩, ⟨.inl rfl, by decide⟩, by
      unfold CountersFit; decide, rfl⟩, by decide +kernel⟩

/-- No segment due: the same with no response. -/
theorem test_premises_SilentBusHangsTheCommand_silent :
    let s := ready (.gyroSample 0#32) .sampleS1
    (nextInputs s).reset = false ∧ (∃ t, step s = .next t) ∧ dueSegment (atSequencer s) = none :=
  ⟨rfl, step_of_steps (by decide +kernel), by decide +kernel⟩

/-- A line high for `n` cycles and then low. -/
theorem high_then_low (n : Nat) (s : State) :
    let t := { s with script := List.replicate n (quietInputs true) ++ [quiet] }
    (∀ k, k < n → (t.inputsAt k).echoIn = true ∧ (t.inputsAt k).reset = false) ∧
      (t.inputsAt n).echoIn = false ∧ (t.inputsAt n).reset = false := by
  refine ⟨fun k hk => ?_, ?_⟩
  · simp [State.inputsAt, List.getElem?_append_left, hk, quietInputs]
  · simp [State.inputsAt, quiet, quietInputs]

/-- A falling edge in the last cycle of the window and in no other: the line is high until then. -/
theorem test_premises_EchoReadCompletes_lastEdge :
    let s := { at' .echoRead .s0 with script := List.replicate 40020 (quietInputs true) ++ [quiet] }
    EdgesPaired s ∧ noResetFor (trigCycles + windowCycles + 1) s ∧ 40019 < 40020 ∧
      (s.inputsAt 40019).echoIn = true ∧ (s.inputsAt (40019 + 1)).echoIn = false := by
  obtain ⟨high, low⟩ := high_then_low 40020 (at' .echoRead .s0)
  refine ⟨⟨rfl, rfl⟩, fun k hk => ?_, by decide, (high 40019 (by decide)).1, low.1⟩
  rcases Nat.lt_succ_iff_lt_or_eq.mp hk with h | rfl
  · exact (high k h).2
  · exact low.2

/-- The whole window quiet: the host's clause holds too. -/
theorem test_premises_EchoReadCompletes :
    let n := trigCycles + windowCycles + 1
    let s := { at' .echoRead .s0 with script := List.replicate n quiet }
    s.cfg.wf = true ∧ s.busy = true ∧ s.seqStep = .seg .s0 ∧ s.seqWait = 0#32 ∧
      decode (currentWord s) = .ok .echoRead ∧ noResetFor n s ∧
      ∀ v, (s.inputsAt (trigCycles + windowCycles)).host ≠ .write 0x04#8 v :=
  ⟨test_ex1_wf, rfl, rfl, rfl, by decide, noReset_quiet _ (at' .echoRead .s0), by
    intro v
    simp [State.inputsAt, quiet, quietInputs]⟩

theorem test_premises_HostReadsHaveNoSideEffect :
    quiet.reset = false ∧ ∃ t, step { at' .nop .s0 with script := { quiet with host := .none } :: [] } = .next t :=
  ⟨rfl, step_of_steps (by decide +kernel)⟩

/-- A misaligned address, the first unmapped one, and a read-only one. -/
theorem test_premises_DeadAndReadOnlyAddresses :
    (0x02#8).toNat % 4 ≠ 0 ∧ 0x50 ≤ (0x50#8).toNat ∧ 0x3C#8 ≠ 0x00#8 ∧ 0x3C#8 ≠ 0x04#8 := by decide

theorem test_premises_AcceptanceLatchesTheCommand : State.reset.busy = false := rfl

theorem test_premises_OverrunIsRecordedAndIgnored :
    (at' .echoRead .readS1).busy = true ∧
      let s := { at' .echoRead .readS1 with ovr := true }
      s.ovr = true ∧ (nextInputs s).reset = false ∧ ∃ t, step s = .next t :=
  ⟨rfl, rfl, rfl, step_of_steps (by decide +kernel)⟩

/-- The host writes CMD_ARG = 250 and then GYRO.INIT (K9). -/
theorem test_premises_IssueStartsTheCommand :
    let a := hostCycle (.write 0x00#8 0x000000FA#32)
    let b := hostCycle (.write 0x04#8 0x10000000#32)
    let s := idleWith [a, b]
    s.cfg.wf = true ∧ s.busy = false ∧ s.seqStep = .idle ∧ a.reset = false ∧ b.reset = false ∧
      issue (.gyroInit 250#32) = [a.host, b.host] ∧ s.script = a :: b :: [] := by decide +kernel

/-- A busy block whose host writes CMD_OP in the cycle in which the command finishes (K10). -/
theorem test_premises_LatchedWordHoldsWhileBusy :
    let s := { at' .nop .s0 with script := [hostCycle (.write 0x04#8 0x01000000#32)] }
    s.busy = true ∧ (nextInputs s).reset = false ∧ ∃ t, step s = .next t :=
  ⟨rfl, rfl, step_of_steps (by decide +kernel)⟩

theorem test_premises_StickyFlagsClearOnlyAtReset :
    let s := { at' .nop .s0 with cfgFatal := true, calDone := true }
    (nextInputs s).reset = false ∧ (∃ t, step s = .next t) ∧ s.cfgFatal = true ∧ s.calDone = true :=
  ⟨rfl, step_of_steps (by decide +kernel), rfl, rfl⟩

theorem test_premises_NopAndIllegalOnlyFinish :
    let s := { at' .nop .s0 with curOp := 0x02000001#32 }
    s.seqStep = .seg .s0 ∧ decode (currentWord s) = .error .reservedBits := by decide

theorem test_premises_TriggerCommandLoadsThePulse : (at' .echoTrigger .s0).seqStep = .seg .s0 := rfl

theorem test_premises_EchoReadSegments :
    (at' .echoRead .s0).seqStep = .seg .s0 ∧ (at' .echoRead .readS1).seqStep = .seg .readS1 := ⟨rfl, rfl⟩

theorem test_premises_ConvertComputesTheDistance : (at' (.echoConvert 255#8 65535#16) .s0).seqStep = .seg .s0 := rfl

theorem test_premises_InitRefusesOtherRanges :
    (at' (.gyroInit 300#32) .s0).seqStep = .seg .s0 ∧ (300#32).toNat ∉ [250, 500, 1000, 2000] := by decide

/-- The first write requested, and the pre-initialisation write answered. -/
theorem test_premises_InitIssuesItsWritesInOrder :
    (500#32, 0x08#8) ∈ rangeWrites ⟨0x00#8, 0x08#8, 0x10#8, 0x18#8⟩ ∧
      (250#32, State.reset.cfg.gyroRangeVal.v250) ∈ rangeWrites State.reset.cfg.gyroRangeVal ∧
      (at' (.gyroInit 250#32) .s0).seqStep = .seg .s0 ∧
      let s := answer 0#8 zeros (at' (.gyroInit 250#32) .initPW)
      s.seqStep = .seg .initPW ∧ s.busRsp = some ⟨0#8, zeros⟩ := by decide

theorem test_premises_InitCompletes :
    let s := answer 0#8 zeros (at' (.gyroInit 2000#32) .initRW)
    s.seqStep = .seg .initRW ∧ s.busRsp = some ⟨0#8, zeros⟩ := by decide

/-- H8 and H9: a failed pre-initialisation write and a failed range write. -/
theorem test_premises_InitFailsOnABusError :
    (250#32).toNat ∈ [250, 500, 1000, 2000] ∧
      (let s := answer 0x01#8 zeros (at' (.gyroInit 250#32) .initPW)
       (s.seqStep = .seg .initPW ∨ s.seqStep = .seg .initRW) ∧ s.busRsp = some ⟨0x01#8, zeros⟩) ∧
      let s := answer 0xFF#8 zeros (at' (.gyroInit 250#32) .initRW)
      (s.seqStep = .seg .initPW ∨ s.seqStep = .seg .initRW) ∧ s.busRsp = some ⟨0xFF#8, zeros⟩ := by decide

theorem test_premises_CalibrateChecksAndStarts :
    ((at' .gyroCalibrate .s0).seqStep = .seg .s0 ∧ (at' .gyroCalibrate .s0).initOk = false) ∧
      ((ready .gyroCalibrate .s0).initOk = true ∧ (ready .gyroCalibrate .s0).calDone = false) ∧
      let s := { ready .gyroCalibrate .s0 with calDone := true }
      s.seqStep = .seg .s0 ∧ s.initOk = true ∧ s.calDone = true := by decide

/-- A sample answered, and one sample short of the four of EX1. -/
theorem test_premises_CalibrateSumsItsSamples :
    (let s := answer 0#8 zeros (ready .gyroCalibrate .calC1)
     s.seqStep = .seg .calC1 ∧ s.busRsp = some ⟨0#8, zeros⟩) ∧
      let s := { ready .gyroCalibrate .calC2 with seqI := 3#16 }
      s.seqStep = .seg .calC2 ∧ s.seqI.toNat < s.cfg.calN := by decide

theorem test_premises_CalibrateCompletes :
    let s := { ready .gyroCalibrate .calC2 with seqI := 4#16 }
    s.seqStep = .seg .calC2 ∧ s.cfg.calN ≤ s.seqI.toNat := by decide

theorem test_premises_SampleChecksAndReads :
    ((at' (.gyroSample 0#32) .s0).seqStep = .seg .s0 ∧ (at' (.gyroSample 0#32) .s0).initOk = false) ∧
      (ready (.gyroSample 0#32) .s0).seqStep = .seg .s0 ∧ (ready (.gyroSample 0#32) .s0).initOk = true := by decide

theorem test_premises_SampleIntegratesTheRates :
    let s := answer 0#8 zeros (ready (.gyroSample 0x3CA3D70A#32) .sampleS1)
    s.seqStep = .seg .sampleS1 ∧ s.busRsp = some ⟨0#8, zeros⟩ := by decide

theorem test_premises_GyroResetZeroesTheAccumulators : (at' .gyroReset .s0).seqStep = .seg .s0 := rfl

/-- A GYRO.RESET that changes an accumulator. -/
theorem test_premises_HeadingRegistersHaveTheirWriters :
    let s := { at' .gyroReset .s0 with headYaw := 0x3DCCCCCC#32 }
    BlockInv s ∧ (nextInputs s).reset = false ∧ ∃ t, step s = .next t ∧ t.headYaw ≠ s.headYaw :=
  ⟨⟨⟨rfl, rfl⟩, ⟨rfl, by decide, rfl⟩, .inl ⟨rfl, rfl, rfl⟩, ⟨.inl rfl, by decide⟩, by
    unfold CountersFit; decide, trivial⟩, rfl, by
    refine ⟨(stateOf (step { at' .gyroReset .s0 with headYaw := 0x3DCCCCCC#32 })).get (by decide +kernel), ?_, ?_⟩
    · obtain ⟨t, ht⟩ := step_of_steps (s := { at' .gyroReset .s0 with headYaw := 0x3DCCCCCC#32 }) (by decide +kernel)
      simp only [ht, stateOf, Option.get_some]
    · decide +kernel⟩

/-- A last segment of the calibration that changes an offset. -/
theorem test_premises_HeadingRegistersHaveTheirWriters_offsets :
    let s := { ready .gyroCalibrate .calC2 with seqI := 4#16, calSumX := 0x3EB3C948#32 }
    BlockInv s ∧ (nextInputs s).reset = false ∧ get State.gyroOffX (step s) = some 0x3DB3C948#32 ∧
      s.gyroOffX = 0#32 :=
  ⟨⟨⟨rfl, rfl⟩, ⟨rfl, by decide, rfl⟩, .inr ⟨.dps250, rfl, rfl⟩, ⟨.inl rfl, by decide⟩, by
    unfold CountersFit; decide, ⟨rfl, rfl⟩⟩, rfl, by decide +kernel, rfl⟩

/-- S10: the highest rounded heading, 89.5, is entry 180; and S4, -0.5, is entry 89. -/
theorem test_premises_SetHeadingWritesTheTableEntry :
    (at' (.servoSetHeading 0x42B30000#32) .s0).cfg.wf = true ∧
      (at' (.servoSetHeading 0x42B30000#32) .s0).seqStep = .seg .s0 ∧
      (F32.ofBits 0x42B30000#32 = .fin false (179 * 2 ^ 148) ∧ 179 * 2 ^ 148 < 90 * 2 ^ 149 ∧
        2 * 90 * 2 ^ 149 ≤ 2 * (179 * 2 ^ 148) + 2 ^ 149 ∧ 2 * (179 * 2 ^ 148) + 2 ^ 149 < 2 * (90 + 1) * 2 ^ 149) ∧
      (F32.ofBits 0xBF000000#32 = .fin true (2 ^ 148) ∧ 2 ^ 148 < 90 * 2 ^ 149 ∧
        2 * 1 * 2 ^ 149 ≤ 2 * 2 ^ 148 + 2 ^ 149 ∧ 2 * 2 ^ 148 + 2 ^ 149 < 2 * (1 + 1) * 2 ^ 149) := by decide +kernel

/-- S13, S16 and S17: 90.0, an infinity and a NaN. -/
theorem test_premises_SetHeadingOutOfRangeHoldsThePulse :
    (at' (.servoSetHeading 0x42B40000#32) .s0).seqStep = .seg .s0 ∧
      (F32.ofBits 0x42B40000#32 = .fin false (90 * 2 ^ 149) ∧ 90 * 2 ^ 149 ≤ 90 * 2 ^ 149) ∧
      F32.ofBits 0x7F800000#32 = .inf false ∧ F32.ofBits 0x7FC00000#32 = .nan := by decide +kernel

/-- Both ends of the range, and the values just outside it. -/
theorem test_premises_SetPulseChecksTheRange :
    (at' (.servoSetPulse 1000#32) .s0).seqStep = .seg .s0 ∧
      (let c := State.reset.cfg
       (c.pulseMin.toNat ≤ (1000#32).toNat ∧ (1000#32).toNat ≤ c.pulseMax.toNat) ∧
         (c.pulseMin.toNat ≤ (2000#32).toNat ∧ (2000#32).toNat ≤ c.pulseMax.toNat) ∧
         (999#32).toNat < c.pulseMin.toNat ∧ c.pulseMax.toNat < (2001#32).toNat) := by decide

/-- Where the clauses meet: 0, 90, 91, 180, and 181 and -1 outside. -/
theorem test_premises_AngleToPulseInterpolates :
    (at' (.servoAngleToPulse 90#32) .s0).cfg.wf = true ∧ (at' (.servoAngleToPulse 90#32) .s0).seqStep = .seg .s0 ∧
      (0#32).toInt = 0 ∧ (90#32).toInt = 90 ∧ (91#32).toInt = 91 ∧ (180#32).toInt = 180 ∧ (181#32).toInt = 181 ∧
      (0xFFFFFFFF#32).toInt = -1 := by decide +kernel

/-- P3: 12.5 twice, and 90.0 twice. -/
theorem test_premises_SetHeadingTwiceWritesTwice :
    (at' (.servoSetHeading 0x41480000#32) .s0).cfg.wf = true ∧
      [(0x41480000#32, Code.ok), (0x42B40000#32, Code.headingRange)].all (fun p =>
        match exec (.servoSetHeading p.1) (at' (.servoSetHeading p.1) .s0) with
        | .next t =>
          decide (t.code = p.2) && (stateOf (exec (.servoSetHeading p.1) { t with seqStep := .seg .s0 })).isSome
        | _ => false) = true := by decide +kernel

/-- A step with a PWM write, and one without. -/
theorem test_premises_PwmWritesCountsTheStrobes :
    (nextInputs (at' (.servoSetPulse 1500#32) .s0)).reset = false ∧
      get State.pwmWr (step (at' (.servoSetPulse 1500#32) .s0)) = some true ∧
      get State.pwmWr (step (at' (.servoSetPulse 999#32) .s0)) = some false := by decide +kernel

/-- The threshold's two sides at G2 and G4: 38 cm and 37 cm (E19, E18). -/
theorem test_premises_GapFindSearchesRightThenLeft :
    State.reset.cfg.wf = true ∧
      [Seg.s0, .g1, .g2, .g3, .g4, .g5].all (fun l => decide ((at' .gapFind l).seqStep = .seg l)) = true ∧
      37 < (2204#32).toNat / 58 ∧ (2146#32).toNat / 58 ≤ 37 := by decide +kernel

/-- The last point but one, and the last. -/
theorem test_premises_GapFindSweepPoint :
    (let s := { at' .gapFind .g6 with seqK := 5#3 }
     s.cfg.wf = true ∧ s.seqStep = .seg .g6 ∧ s.cfg.sweep[s.seqK.toNat]? = some ⟨60, 1833#16⟩ ∧
       s.cfg.sweep[s.seqK.toNat + 1]? = some ⟨90, 2000#16⟩) ∧
      let s := { at' .gapFind .g6 with seqK := 6#3 }
      s.seqStep = .seg .g6 ∧ s.cfg.sweep[s.seqK.toNat]? = some ⟨90, 2000#16⟩ ∧ s.seqK = 6#3 := by decide +kernel

/-- W9: the sweep 10, 15, 40, 12, 8, 30, 5 cm, as corrected durations. -/
theorem test_premises_SweepSelectsTheFirstGreatest :
    let s := at' .gapFind .g6
    let ds : List Word := [580#32, 870#32, 2320#32, 696#32, 464#32, 1740#32, 290#32]
    s.cfg.wf = true ∧ ds.length = 7 ∧ s.seqK = 0#3 ∧ s.gapMaxd = 0#32 ∧ s.gapSel = 0#16 ∧ s.gapIdx = 7#3 := by
  decide +kernel

theorem test_premises_GapFindCompletes : (at' .gapFind .ge).seqStep = .seg .ge := rfl

/-- PULSE_RIGHT, PULSE_LEFT, a sweep pulse, an unmapped one and 0. -/
theorem test_premises_PulseToAngleInvertsTheSweep :
    let c := State.reset.cfg
    (at' (.gapPulseToAngle 0#32) .s0).cfg.wf = true ∧ (at' (.gapPulseToAngle 0#32) .s0).seqStep = .seg .s0 ∧
      (2000#32).toNat = c.pulseRight.toNat ∧ (1000#32).toNat = c.pulseLeft.toNat ∧
      (c.sweep[2]? = some ⟨-30, 1334#16⟩ ∧ (1334#32).toNat = (1334#16).toNat) ∧
      ((1501#32).toNat ≠ c.pulseRight.toNat ∧ (1501#32).toNat ≠ c.pulseLeft.toNat ∧
        c.sweep.toList.all (fun p => decide ((1501#32).toNat ≠ p.pulse.toNat)) = true) := by decide +kernel

/-- A number that is no NaN, a NaN, and an infinity that is none. -/
theorem test_premises_Binary32PatternsAgree :
    F32.isNanPattern 0xFF800000#32 = false ∧ F32.isNanPattern 0x00000001#32 = false ∧
      F32.isNanPattern 0x7F800001#32 = true ∧ F32.ofBits 0x7F800001#32 = .nan ∧ representable 1 :=
  ⟨by decide +kernel, by decide +kernel, by decide +kernel, by decide +kernel, 1, 0, by decide, by decide, rfl⟩

/-- 1/3 rounds to a finite value; the half ulp above the greatest finite value is the first that does not; an odd
multiple of the half ulp is a tie; and the integers of greatest magnitude that convert. -/
theorem test_premises_Binary32RoundsToNearestEven :
    F32.round false F32.one 3 = .fin false (11184811 * 2 ^ 124) ∧
      (2 * (2 ^ 24 - 1) * 2 ^ 253 < (2 ^ 25 - 1) * 2 ^ 253 * 1 ∧ representable ((2 ^ 24 - 1) * 2 ^ 253)) ∧
      (2 ^ 25 - 1) * 2 ^ 253 * 1 ≤ 2 * ((2 ^ 25 - 1) * 2 ^ 252) ∧
      (F32.round false (2 ^ 24 + 1) 1 = .fin false (2 ^ 24) ∧ offBy (2 ^ 24 + 1) 1 (2 ^ 24) = offBy (2 ^ 24 + 1) 1 (2 ^ 24 + 2)) ∧
      (16777215 : Int).natAbs < 2 ^ 24 ∧ (-16777215 : Int).natAbs < 2 ^ 24 :=
  ⟨by decide +kernel, ⟨by decide +kernel, 2 ^ 24 - 1, 253, by decide, by decide, rfl⟩, by decide +kernel,
    by decide +kernel, by decide, by decide⟩

/-- The operations on patterns, by hand: 1.5 + 2^-23 × 0.75 rounds up one unit; 1 - 1 is +0 and -0 + -0 is -0; 2^127 × 2
overflows; 1/3; infinity less infinity, 0 × infinity and 0/0 are NaN; -1/0 is minus infinity. -/
theorem test_f32_operations :
    (F32.ofBits 0x3FC00000#32).add (F32.ofBits 0x33C00000#32) = F32.ofBits 0x3FC00001#32 ∧
      (F32.ofBits 0x3F800000#32).sub (F32.ofBits 0x3F800000#32) = F32.ofBits 0x00000000#32 ∧
      (F32.ofBits 0x80000000#32).add (F32.ofBits 0x80000000#32) = F32.ofBits 0x80000000#32 ∧
      (F32.ofBits 0x7F000000#32).mul (F32.ofBits 0x40000000#32) = F32.ofBits 0x7F800000#32 ∧
      (F32.ofBits 0x3F800000#32).div (F32.ofBits 0x40400000#32) = F32.ofBits 0x3EAAAAAB#32 ∧
      (F32.ofBits 0x7F800000#32).sub (F32.ofBits 0x7F800000#32) = .nan ∧
      (F32.ofBits 0x80000000#32).mul (F32.ofBits 0x7F800000#32) = .nan ∧
      (F32.ofBits 0x00000000#32).div (F32.ofBits 0x80000000#32) = .nan ∧
      (F32.ofBits 0xBF800000#32).div (F32.ofBits 0x00000000#32) = F32.ofBits 0xFF800000#32 := by decide +kernel

/-- R158's example: the rate 5.0 and dt = 0.02, whose product rounds to 0x3DCCCCCC. -/
theorem test_premises_DoubledStepDoublesTheIncrement :
    F32.ofBits 0x40A00000#32 = .fin false (5 * 2 ^ 149) ∧
      F32.ofBits 0x3CA3D70A#32 = .fin false (10737418 * 2 ^ 120) ∧
      2 ^ 23 ≤ 2 * (10737418 * 2 ^ 120) ∧ 2 * (10737418 * 2 ^ 120) < F32.limit ∧
      (2 ^ 25 - 1) * 2 ^ 149 ≤ 4 * (5 * 2 ^ 149 * (10737418 * 2 ^ 120)) ∧
      (F32.ofBits 0x40A00000#32).mul (F32.ofBits 0x3CA3D70A#32) = F32.ofBits 0x3DCCCCCC#32 ∧
      F32.ofBits 0x3DCCCCCC#32 = .fin false (13421772 * 2 ^ 122) := by decide +kernel

/-- A zero rate; and the least product of the premise, a quarter unit below 2^-126, which rounds up to it. -/
theorem test_premises_DoubledStepDoublesTheIncrement_edges :
    (F32.ofBits 0x80000000#32 = .fin true 0 ∧
      (F32.ofBits 0x80000000#32).mul (F32.ofBits 0x3CA3D70A#32) = .fin true 0) ∧
      let a := 18631 * 2 ^ 47
      let b := 1801 * 2 ^ 100
      F32.ofBits 0x13918E00#32 = .fin false a ∧ F32.ofBits 0x2C612000#32 = .fin false b ∧ 2 ^ 23 ≤ 2 * b ∧
        2 * b < F32.limit ∧ (2 ^ 25 - 1) * 2 ^ 149 = 4 * (a * b) ∧
        (F32.ofBits 0x13918E00#32).mul (F32.ofBits 0x2C612000#32) = .fin false (2 ^ 23) := by decide +kernel

end Sys2Proof.Tests
end

section
/-!
The nine checks of a configuration, each as the condition that 00_scope.md R8 writes, and O6.
-/

namespace Sys2Proof

/-- A check of every entry of a table, by index. -/
theorem vector_toList_all_iff {α : Type} {n : Nat} (v : Vector α n) (p : α → Bool) :
    v.toList.all p = true ↔ ∀ (i : Nat) (a : α), v[i]? = some a → p a = true := by
  simp only [List.all_eq_true, Vector.mem_toList_iff, Vector.mem_iff_getElem?]
  exact ⟨fun h i a hi => h a ⟨i, hi⟩, fun h a ⟨i, hi⟩ => h i a hi⟩

theorem allDistinct_iff_nodup (ps : List Half) : allDistinct ps = true ↔ ps.Nodup := by
  induction ps with
  | nil => simp [allDistinct]
  | cons p ps ih => simp [allDistinct, ih]

/-- The images of a list's entries are distinct when entries with the same image have the same index. -/
theorem nodup_map_iff_getElem? {α β : Type} (f : α → β) (l : List α) :
    (l.map f).Nodup ↔ ∀ (j k : Nat) (p q : α), l[j]? = some p → l[k]? = some q → f p = f q → j = k := by
  constructor
  · intro h j k p q hp hq hf
    refine (List.getElem?_inj ?_ h).mp ?_
    · simpa using (List.getElem?_eq_some_iff.mp hp).1
    · simp [hp, hq, hf]
  · intro h
    rw [List.nodup_iff_getElem?_ne_getElem?]
    intro j k hjk hk heq
    have hk' : k < l.length := by simpa using hk
    refine absurd (h j k l[j] l[k] (by simp) (by simp) ?_) hjk.ne
    simpa [hk', hjk.trans hk'] using heq

theorem Config.wfRange_iff (c : Config) :
    c.wfRange = true ↔ c.pulseMin ≤ c.pulseMid ∧ c.pulseMid ≤ c.pulseMax := by
  simp [Config.wfRange]

theorem Config.wfTable_iff (c : Config) :
    c.wfTable = true ↔
      ∀ (i : Nat) (p : Half), c.servoTable[i]? = some p → c.pulseMin ≤ p ∧ p ≤ c.pulseMax := by
  rw [Config.wfTable, vector_toList_all_iff]
  simp only [Config.inRange_iff]

theorem Config.wfSweepRange_iff (c : Config) :
    c.wfSweepRange = true ↔ ∀ (k : Nat) (p : SweepPoint), c.sweep[k]? = some p →
      c.pulseMin ≤ p.pulse ∧ p.pulse ≤ c.pulseMax ∧ -90 ≤ p.angle ∧ p.angle ≤ 90 := by
  rw [Config.wfSweepRange, vector_toList_all_iff]
  simp only [Bool.and_eq_true, decide_eq_true_eq, Config.inRange_iff, and_assoc]

theorem Config.wfFixedPulses_iff (c : Config) :
    c.wfFixedPulses = true ↔
      c.pulseMin ≤ c.pulseRight ∧ c.pulseRight ≤ c.pulseMax ∧ c.pulseMin ≤ c.pulseLeft ∧ c.pulseLeft ≤ c.pulseMax ∧
        c.pulseMin ≤ c.pulseCenter ∧ c.pulseCenter ≤ c.pulseMax := by
  simp [Config.wfFixedPulses, Config.inRange_iff, and_assoc]

theorem Config.wfSweepDistinct_iff (c : Config) :
    c.wfSweepDistinct = true ↔ ∀ (j k : Nat) (p q : SweepPoint),
      c.sweep[j]? = some p → c.sweep[k]? = some q → p.pulse = q.pulse → j = k := by
  rw [Config.wfSweepDistinct, allDistinct_iff_nodup, nodup_map_iff_getElem?]
  simp only [Vector.getElem?_toList]

theorem Config.wfReverseConsistent_iff (c : Config) :
    c.wfReverseConsistent = true ↔ c.pulseRight ≠ c.pulseLeft ∧
      ∀ (k : Nat) (p : SweepPoint), c.sweep[k]? = some p →
        (p.pulse = c.pulseRight → p.angle = c.angleRight.toInt) ∧
        (p.pulse = c.pulseLeft → p.angle = -c.angleRight.toInt) := by
  rw [Config.wfReverseConsistent, Bool.and_eq_true, vector_toList_all_iff]
  simp only [Bool.and_eq_true, Bool.or_eq_true, bne_iff_ne, decide_eq_true_eq, imp_iff_not_or, ne_eq]

theorem Config.wfNonzeroPulses_iff (c : Config) : c.wfNonzeroPulses = true ↔ 1 ≤ c.pulseMin.toNat := by
  simp [Config.wfNonzeroPulses, BitVec.le_def]

theorem Config.wfCal_iff (c : Config) : c.wfCal = true ↔ 1 ≤ c.calN ∧ c.calN ≤ 65535 := by
  simp [Config.wfCal]

theorem Config.wfGyroVals_iff (c : Config) :
    c.wfGyroVals = true ↔ c.gyroDev.toNat < 128 ∧ c.gyroPreInit.length ≤ 65535 := by
  simp [Config.wfGyroVals, BitVec.lt_def]

namespace Machine

/-- A step of a machine built with a malformed configuration is refused. -/
theorem step_refused {s : State} (h : s.cfg.wf = false) : step s = .refused .badConfiguration := by
  simp [step, h]

/-- Settles O6: `wf` is the conjunction of the nine checks, each said by its own lemma. -/
theorem malformedConfigurationIsRefused : Obligations.MalformedConfigurationIsRefused := by
  unfold Obligations.MalformedConfigurationIsRefused
  refine ⟨fun c => ?_, fun s => step_refused⟩
  rw [Config.wf_iff, Config.wfRange_iff, Config.wfTable_iff, Config.wfSweepRange_iff, Config.wfFixedPulses_iff,
    Config.wfSweepDistinct_iff, Config.wfReverseConsistent_iff, Config.wfNonzeroPulses_iff, Config.wfCal_iff,
    Config.wfGyroVals_iff]

end Machine
end Sys2Proof
end

section
/-!
Waiting: what a cycle does in which the sequencer only counts, and O19.
-/

namespace Sys2Proof.Machine

/-- While BUSY = 1 the host phase writes only CMD_ARG, CMD_OP, OVR and HOST_RDATA (20_memory.md R65;
40_command.md R101). -/
theorem hostPhase_of_busy (a : HostAccess) {s : State} (hb : s.busy = true) :
    ∃ arg op o r, hostPhase a s = { s with cmdArg := arg, cmdOp := op, ovr := o, hostRData := r } := by
  cases a with
  | none => exact ⟨_, _, _, _, rfl⟩
  | read addr => exact ⟨_, _, _, _, rfl⟩
  | write addr v =>
    simp only [hostPhase, hostWrite, writeCmdOp, if_pos hb]
    split
    · exact ⟨_, _, _, _, rfl⟩
    · split <;> exact ⟨_, _, _, _, rfl⟩

/-- The block is still in the wait that it was in: busy with the same command before the same segment, and nothing that
a command reports has changed. -/
structure SameWait (s t : State) : Prop where
  cfg         : t.cfg = s.cfg
  busy        : t.busy = s.busy
  seqStep     : t.seqStep = s.seqStep
  currentWord : currentWord t = currentWord s
  result      : t.result = s.result
  code        : t.code = s.code
  lastOpc     : t.lastOpc = s.lastOpc

theorem SameWait.refl (s : State) : SameWait s s := ⟨rfl, rfl, rfl, rfl, rfl, rfl, rfl⟩

theorem SameWait.trans {s t u : State} (h : SameWait s t) (k : SameWait t u) : SameWait s u :=
  ⟨k.cfg.trans h.cfg, k.busy.trans h.busy, k.seqStep.trans h.seqStep, k.currentWord.trans h.currentWord,
   k.result.trans h.result, k.code.trans h.code, k.lastOpc.trans h.lastOpc⟩

/-- Phase 6 with no segment due, forwards. -/
theorem sequencerPhase_of_none {s : State} (h : dueSegment s = none) :
    sequencerPhase s = .next (idleSequencer s) := by
  simp [sequencerPhase, h]

/-- A cycle of a busy block in which no segment is due keeps it waiting, whatever the inputs but reset. -/
theorem step_of_not_due {s : State} (hw : s.cfg.wf = true) (hb : s.busy = true) (hr : (nextInputs s).reset = false)
    (hd : dueSegment (atSequencer s) = none) :
    ∃ t, step s = .next t ∧ SameWait s t ∧ t.seqWait = (idleSequencer (atSequencer s)).seqWait := by
  refine ⟨_, step_of_sequencer hw hr (sequencerPhase_of_none hd), ?_⟩
  obtain ⟨arg, op, o, r, hh⟩ := hostPhase_of_busy (nextInputs s).host
    (s := idleSequencer (autonomous (nextInputs s) (beginCycle s))) (by simpa using hb)
  rw [hh]
  refine ⟨?_, rfl⟩
  constructor <;> simp [currentWord]

/-- In a counted wait the segment is due exactly when SEQ_WAIT = 0 (10_state.md R45). -/
theorem dueSegment_counted {s : State} {l : Seg} (hs : s.seqStep = .seg l) (ha : l.awaits = none) :
    dueSegment (atSequencer s) = if s.seqWait = 0#32 then some l else none := by
  simp [dueSegment, atSequencer, hs, ha]

/-- A cycle of a counted wait that is not over takes 1 from SEQ_WAIT. -/
theorem idleSequencer_counted {s : State} {l : Seg} (hs : s.seqStep = .seg l) (ha : l.awaits = none)
    (h0 : s.seqWait ≠ 0#32) : (idleSequencer (atSequencer s)).seqWait = s.seqWait - 1#32 := by
  simp [idleSequencer, atSequencer, hs, ha, h0]

theorem noResetFor_next {s : State} {n : Nat} (hn : noResetFor (n + 1) s) : (nextInputs s).reset = false :=
  nextInputs_eq s ▸ hn 0 (Nat.succ_pos n)

theorem noResetFor_step {s t : State} {n : Nat} (h : step s = .next t) (hn : noResetFor (n + 1) s) :
    noResetFor n t := by
  intro k hk
  rw [inputsAt_step h]
  exact hn (k + 1) (Nat.succ_lt_succ hk)

/-- A counted wait of `n` cycles: no segment is due in any of them, and at their end the wait is over. -/
theorem run_counted_wait {l : Seg} (ha : l.awaits = none) (n : Nat) :
    ∀ s : State, s.cfg.wf = true → s.busy = true → s.seqStep = .seg l → s.seqWait.toNat = n → noResetFor n s →
      (∀ j, j < n → ∃ u, core.run j s = .next u ∧ dueSegment (atSequencer u) = none) ∧
        ∃ t, core.run n s = .next t ∧ SameWait s t ∧ t.seqWait = 0#32 := by
  induction n with
  | zero =>
    intro s _ _ _ hn _
    exact ⟨fun j hj => absurd hj (Nat.not_lt_zero j), s, rfl, .refl s, BitVec.eq_of_toNat_eq hn⟩
  | succ n ih =>
    intro s hw hb hs hn hr
    have h0 : s.seqWait ≠ 0#32 := by intro h; simp [h] at hn
    have hd : dueSegment (atSequencer s) = none := by simp [dueSegment_counted hs ha, h0]
    obtain ⟨t, ht, same, hwait⟩ := step_of_not_due hw hb (noResetFor_next hr) hd
    rw [idleSequencer_counted hs ha h0] at hwait
    obtain ⟨before, u, hu, sameU, hu0⟩ := ih t (same.cfg ▸ hw) (same.busy.trans hb) (same.seqStep.trans hs)
      (by rw [hwait]; bv_omega) (noResetFor_step ht hr)
    refine ⟨fun j hj => ?_, u, (core_run_succ ht n).trans hu, same.trans sameU, hu0⟩
    cases j with
    | zero => exact ⟨s, rfl, hd⟩
    | succ j =>
      obtain ⟨v, hv, hdv⟩ := before j (Nat.lt_of_succ_lt_succ hj)
      exact ⟨v, (core_run_succ ht j).trans hv, hdv⟩

/-- Settles O19, by induction on SEQ_WAIT. -/
theorem countedWaitEndsOnTime : Obligations.CountedWaitEndsOnTime := by
  unfold Obligations.CountedWaitEndsOnTime
  intro s l hw hb hs ha hr
  obtain ⟨before, t, ht, same, h0⟩ := run_counted_wait ha s.seqWait.toNat s hw hb hs rfl hr
  have hts : t.seqStep = .seg l := same.seqStep.trans hs
  exact ⟨before, t, ht, hts, h0, same.busy.trans hb, same.currentWord, same.result, same.code, same.lastOpc,
    by simp [dueSegment_counted hts ha, h0]⟩

end Sys2Proof.Machine
end

section
/-!
Magnitudes in units of 2^-149: the ones that binary32 can hold, and the fields they are packed into (00_scope.md R10).
-/

namespace Sys2Proof.Machine

/-- 2^128 as the first significand beyond 24 bits at the greatest exponent. -/
theorem limit_eq : F32.limit = 2 ^ 24 * 2 ^ 253 := by
  rw [F32.limit, ← pow_add, ← pow_add]

/-- The bits of a magnitude beyond a 24-bit significand leave a significand of 24 bits. -/
theorem lt_pow_excessBits (q : Nat) : q < 2 ^ (24 + F32.excessBits q) := by
  refine Nat.lt_log2_self.trans_le (Nat.pow_le_pow_right (by decide) ?_)
  unfold F32.excessBits
  omega

/-- They leave a full one, unless there are none. -/
theorem pow_excessBits_le (q : Nat) : F32.excessBits q = 0 ∨ 2 ^ (23 + F32.excessBits q) ≤ q := by
  refine or_iff_not_imp_left.mpr fun h => ?_
  have h23 : 23 + F32.excessBits q = Nat.log2 q := by unfold F32.excessBits at *; omega
  rw [h23]
  exact Nat.log2_self_le (by rintro rfl; exact h rfl)

/-- A magnitude with a full significand at exponent `k`, or none at exponent 0, has `k` bits beyond it. -/
theorem excessBits_eq {q k : Nat} (hlt : q < 2 ^ (24 + k)) (hle : k = 0 ∨ 2 ^ (23 + k) ≤ q) : F32.excessBits q = k := by
  have hpow := @Nat.pow_lt_pow_iff_right 2
  have above := lt_pow_excessBits q
  have below := pow_excessBits_le q
  apply le_antisymm
  · obtain h0 | below := below
    · omega
    · have := (hpow (by decide)).mp (below.trans_lt hlt)
      omega
  · obtain rfl | hle := hle
    · exact Nat.zero_le _
    · have := (hpow (by decide)).mp (hle.trans_lt above)
      omega

/-- The exponent and fraction fields of a significand, full or at the least exponent; the first significand beyond 24
bits carries into the exponent field. -/
theorem magBits_mul {c k : Nat} (hc : c ≤ 2 ^ 24) (hn : k = 0 ∨ 2 ^ 23 ≤ c) :
    F32.magBits (c * 2 ^ k) = k * 2 ^ 23 + c := by
  have key {c k : Nat} (hc : c < 2 ^ 24) (hn : k = 0 ∨ 2 ^ 23 ≤ c) : F32.magBits (c * 2 ^ k) = k * 2 ^ 23 + c := by
    have hk : Nat.log2 (c * 2 ^ k) - 23 = k := by
      refine excessBits_eq ?_ (hn.imp_right fun h => ?_)
      · rw [pow_add]; exact Nat.mul_lt_mul_of_pos_right hc (by positivity)
      · rw [pow_add]; exact Nat.mul_le_mul_right _ h
    simp only [F32.magBits, hk, Nat.mul_div_cancel _ (Nat.two_pow_pos k)]
  obtain hlt | rfl := Nat.lt_or_eq_of_le hc
  · exact key hlt hn
  · rw [show 2 ^ 24 * 2 ^ k = 2 ^ 23 * 2 ^ (k + 1) by ring, key (by decide) (.inr le_rfl)]
    ring

/-- A representable magnitude has a 24-bit significand that is full, or the least exponent. -/
theorem representable_normal {m : Nat} (h : representable m) :
    ∃ c k, c < 2 ^ 24 ∧ k ≤ 253 ∧ m = c * 2 ^ k ∧ (k = 0 ∨ 2 ^ 23 ≤ c) := by
  obtain ⟨c, k, hc, hk, rfl⟩ := h
  induction k generalizing c with
  | zero => exact ⟨c, 0, hc, hk, rfl, .inl rfl⟩
  | succ k ih =>
    by_cases hfull : 2 ^ 23 ≤ c
    · exact ⟨c, k + 1, hc, hk, rfl, .inr hfull⟩
    · obtain ⟨c', k', hc', hk', he, hn⟩ := ih (2 * c) (by omega) (by omega)
      exact ⟨c', k', hc', hk', by rw [← he, pow_succ]; ring, hn⟩

theorem representable_zero : representable 0 := ⟨0, 0, by decide, by decide, rfl⟩

/-- A representable magnitude is a multiple of 2^k, or lies below every full significand at exponent `k`. -/
theorem representable_multiple_or_below {m : Nat} (h : representable m) (k : Nat) :
    (∃ c, m = c * 2 ^ k) ∨ (0 < k ∧ m < 2 ^ 23 * 2 ^ k) := by
  obtain ⟨c, j, hc, -, rfl⟩ := h
  obtain hkj | hjk := Nat.lt_or_ge j k |>.symm
  · obtain ⟨i, rfl⟩ := Nat.exists_eq_add_of_le hkj
    exact .inl ⟨c * 2 ^ i, by ring⟩
  · obtain ⟨i, rfl⟩ := Nat.exists_eq_add_of_lt hjk
    refine .inr ⟨by omega, ?_⟩
    calc c * 2 ^ j < 2 ^ 24 * 2 ^ j := Nat.mul_lt_mul_of_pos_right hc (by positivity)
      _ ≤ 2 ^ 24 * 2 ^ (j + i) := Nat.mul_le_mul_left _ (Nat.pow_le_pow_right (by decide) (by omega))
      _ = 2 ^ 23 * 2 ^ (j + i + 1) := by ring

/-- A significand of 24 bits or the first one beyond, full or at the least exponent, is representable below 2^128. -/
theorem representable_of_lt_limit {c k : Nat} (hc : c ≤ 2 ^ 24) (hn : k = 0 ∨ 2 ^ 23 ≤ c)
    (h : c * 2 ^ k < F32.limit) : representable (c * 2 ^ k) := by
  rw [limit_eq] at h
  obtain hlt | rfl := Nat.lt_or_eq_of_le hc
  · refine ⟨c, k, hlt, ?_, rfl⟩
    obtain rfl | hfull := hn
    · exact Nat.zero_le _
    · have hpow : 2 ^ (23 + k) < 2 ^ (24 + 253) := by
        rw [pow_add, pow_add 2 24]
        exact (Nat.mul_le_mul_right _ hfull).trans_lt h
      have := (Nat.pow_lt_pow_iff_right (by decide)).mp hpow
      omega
  · have := (Nat.pow_lt_pow_iff_right (by decide)).mp (Nat.lt_of_mul_lt_mul_left h)
    exact ⟨2 ^ 23, k + 1, by decide, this, by ring⟩

end Sys2Proof.Machine
end

section
/-!
One rounding: the nearest representable magnitude, ties to even, infinity from half an ulp above the greatest
(00_scope.md R10).
-/

namespace Sys2Proof.Machine

theorem offBy_eq (n d m : Nat) : offBy n d m = (n - m * d) + (m * d - n) := by
  unfold offBy
  rw [← Int.natCast_mul]
  omega

/-- A significand's distance in units of `d × 2^k` is its magnitude's in units of `d`. -/
theorem offBy_mul_pow (n d c k : Nat) : offBy n (d * 2 ^ k) c = offBy n d (c * 2 ^ k) := by
  rw [offBy_eq, offBy_eq, show c * (d * 2 ^ k) = c * 2 ^ k * d by ring]

/-- `divNearestEven` is within half a unit, and even when the distance is half a unit. -/
theorem divNearestEven_spec (n : Nat) {u : Nat} (hu : 0 < u) :
    2 * (F32.divNearestEven n u * u) ≤ 2 * n + u ∧ 2 * n ≤ 2 * (F32.divNearestEven n u * u) + u ∧
      (2 * (F32.divNearestEven n u * u) = 2 * n + u ∨ 2 * n = 2 * (F32.divNearestEven n u * u) + u →
        F32.divNearestEven n u % 2 = 0) := by
  have hn : n / u * u + n % u = n := by rw [Nat.mul_comm]; exact Nat.div_add_mod n u
  have hr := Nat.mod_lt n hu
  unfold F32.divNearestEven
  dsimp only
  split
  · rw [Nat.add_mul]; omega
  · omega

/-- No integer is nearer, and one as near makes the choice even. -/
theorem divNearestEven_nearest (n : Nat) {u : Nat} (hu : 0 < u) (m' : Nat) :
    offBy n u (F32.divNearestEven n u) ≤ offBy n u m' ∧
      (m' ≠ F32.divNearestEven n u → offBy n u (F32.divNearestEven n u) = offBy n u m' →
        F32.divNearestEven n u % 2 = 0) := by
  obtain ⟨hhi, hlo, htie⟩ := divNearestEven_spec n hu
  generalize F32.divNearestEven n u = m at *
  rw [offBy_eq, offBy_eq]
  obtain hlt | rfl | hgt := Nat.lt_trichotomy m' m
  · have := Nat.mul_le_mul_right u (Nat.succ_le_of_lt hlt)
    rw [Nat.succ_mul] at this
    omega
  · exact ⟨le_rfl, fun h => absurd rfl h⟩
  · have := Nat.mul_le_mul_right u (Nat.succ_le_of_lt hgt)
    rw [Nat.succ_mul] at this
    omega

/-- It lies between any integers that the quotient lies between. -/
theorem divNearestEven_le {n u c : Nat} (hu : 0 < u) (h : n ≤ c * u) : F32.divNearestEven n u ≤ c := by
  obtain ⟨hhi, -, -⟩ := divNearestEven_spec n hu
  by_contra hc
  have := Nat.mul_le_mul_right u (Nat.lt_of_not_le hc)
  rw [Nat.succ_mul] at this
  omega

theorem le_divNearestEven {n u c : Nat} (hu : 0 < u) (h : c * u ≤ n) : c ≤ F32.divNearestEven n u := by
  obtain ⟨-, hlo, -⟩ := divNearestEven_spec n hu
  by_contra hc
  have := Nat.mul_le_mul_right u (Nat.lt_of_not_le hc)
  rw [Nat.succ_mul] at this
  omega

/-- The exponent at which `n / d` is rounded. -/
def roundExponent (n d : Nat) : Nat := F32.excessBits (n / d)

/-- The significand to which `n / d` is rounded at that exponent. -/
def roundSignificand (n d : Nat) : Nat := F32.divNearestEven n (d * 2 ^ roundExponent n d)

theorem round_eq (neg : Bool) (n d : Nat) :
    F32.round neg n d =
      if roundSignificand n d * 2 ^ roundExponent n d < F32.limit then
        .fin neg (roundSignificand n d * 2 ^ roundExponent n d)
      else .inf neg := rfl

section
variable (n : Nat) {d : Nat} (hd : 0 < d)
include hd

theorem round_unit_pos : 0 < d * 2 ^ roundExponent n d := by positivity

/-- The exact magnitude has a significand of less than 2^24 units at its exponent. -/
theorem lt_round_units : n < 2 ^ 24 * (d * 2 ^ roundExponent n d) := by
  have h := (Nat.div_lt_iff_lt_mul hd).mp (lt_pow_excessBits (n / d))
  calc n < 2 ^ (24 + roundExponent n d) * d := h
    _ = 2 ^ 24 * (d * 2 ^ roundExponent n d) := by ring

/-- It has at least 2^23 of them, unless its exponent is the least. -/
theorem round_units_le : roundExponent n d = 0 ∨ 2 ^ 23 * (d * 2 ^ roundExponent n d) ≤ n := by
  refine (pow_excessBits_le (n / d)).imp_right fun h => ?_
  calc 2 ^ 23 * (d * 2 ^ roundExponent n d) = 2 ^ (23 + roundExponent n d) * d := by ring
    _ ≤ n := (Nat.le_div_iff_mul_le hd).mp h

theorem roundSignificand_le : roundSignificand n d ≤ 2 ^ 24 :=
  divNearestEven_le (round_unit_pos n hd) (lt_round_units n hd).le

theorem roundSignificand_full : roundExponent n d = 0 ∨ 2 ^ 23 ≤ roundSignificand n d :=
  (round_units_le n hd).imp_right (le_divNearestEven (round_unit_pos n hd))

/-- No representable magnitude is nearer than the rounded one, and one as near is a multiple of the same unit. -/
theorem round_nearest {m' : Nat} (hm : representable m') :
    offBy n d (roundSignificand n d * 2 ^ roundExponent n d) ≤ offBy n d m' ∧
      (m' ≠ roundSignificand n d * 2 ^ roundExponent n d →
        offBy n d (roundSignificand n d * 2 ^ roundExponent n d) = offBy n d m' → roundSignificand n d % 2 = 0) := by
  have nearest := divNearestEven_nearest n (round_unit_pos n hd)
  obtain ⟨c, rfl⟩ | ⟨hk, hbelow⟩ := representable_multiple_or_below hm (roundExponent n d)
  · obtain ⟨hle, heven⟩ := nearest c
    rw [← offBy_mul_pow, ← offBy_mul_pow]
    exact ⟨hle, fun hne => heven fun h => hne (h ▸ rfl)⟩
  · -- `m'` lies below 2^23 units, which lie below the exact magnitude
    have hlt : offBy n d (roundSignificand n d * 2 ^ roundExponent n d) < offBy n d m' := by
      have hfull := (round_units_le n hd).resolve_left hk.ne'
      refine lt_of_le_of_lt (offBy_mul_pow .. ▸ (nearest (2 ^ 23)).1) ?_
      have hmd := Nat.mul_lt_mul_of_pos_right hbelow hd
      rw [offBy_eq, offBy_eq, show 2 ^ 23 * (d * 2 ^ roundExponent n d) = 2 ^ 23 * 2 ^ roundExponent n d * d by ring]
        at *
      omega
    exact ⟨hlt.le, fun _ h => absurd h hlt.ne⟩

end

end Sys2Proof.Machine
end

section
/-!
O58: what one rounding gives, and each operation as the exact result rounded once (00_scope.md R10).
-/

namespace Sys2Proof.Machine

/-- The 2^24th unit is taken from the tie below it on: 2^24 - 1 is odd. -/
theorem divNearestEven_lt_iff {n u : Nat} (hu : 0 < u) :
    F32.divNearestEven n u < 2 ^ 24 ↔ 2 * n < (2 ^ 25 - 1) * u := by
  obtain ⟨hhi, hlo, htie⟩ := divNearestEven_spec n hu
  generalize F32.divNearestEven n u = c at *
  obtain hc | hc | hc : c ≤ 2 ^ 24 - 2 ∨ c = 2 ^ 24 - 1 ∨ 2 ^ 24 ≤ c := by omega
  · have := Nat.mul_le_mul_right u hc
    omega
  · have : c * u = (2 ^ 24 - 1) * u := by rw [hc]
    omega
  · have := Nat.mul_le_mul_right u hc
    omega

/-- The rounded magnitude is finite exactly below half an ulp above the greatest finite value. -/
theorem rounded_lt_limit_iff (n : Nat) {d : Nat} (hd : 0 < d) :
    roundSignificand n d * 2 ^ roundExponent n d < F32.limit ↔ 2 * n < (2 ^ 25 - 1) * 2 ^ 253 * d := by
  have hsig := roundSignificand_le n hd
  have hlt := lt_round_units n hd
  have hfull := roundSignificand_full n hd
  have hunits := round_units_le n hd
  have hlast := divNearestEven_lt_iff (n := n) (round_unit_pos n hd)
  rw [← roundSignificand] at hlast
  rw [limit_eq, show (2 ^ 25 - 1) * 2 ^ 253 * d = (2 ^ 25 - 1) * (d * 2 ^ 253) by ring]
  generalize roundSignificand n d = c at *
  generalize roundExponent n d = k at *
  obtain hk | rfl | hk := Nat.lt_trichotomy k 253
  · -- a unit of at most half the greatest: both sides hold
    have hp : 2 * 2 ^ k ≤ 2 ^ 253 := by
      rw [← pow_succ']; exact Nat.pow_le_pow_right (by decide) hk
    have hu := Nat.mul_le_mul_left d hp
    have hm := Nat.mul_le_mul_right (2 ^ k) hsig
    have hk0 : 0 < 2 ^ k := by positivity
    rw [Nat.mul_left_comm] at hu
    generalize 2 ^ 253 = P at *
    omega
  · -- the greatest unit
    rw [Nat.mul_lt_mul_right (by positivity)]
    exact hlast
  · -- a unit of at least twice the greatest: neither side holds
    have hp : 2 * 2 ^ 253 ≤ 2 ^ k := by
      rw [← pow_succ']; exact Nat.pow_le_pow_right (by decide) hk
    have hu := Nat.mul_le_mul_left d hp
    have hm := Nat.mul_le_mul_right (2 ^ k) (hfull.resolve_left (by omega))
    have hn := hunits.resolve_left (by omega)
    rw [Nat.mul_left_comm] at hu
    generalize 2 ^ 253 = P at *
    omega

/-- The greatest finite magnitude. -/
theorem representable_le {m : Nat} (h : representable m) : m ≤ (2 ^ 24 - 1) * 2 ^ 253 := by
  obtain ⟨c, k, hc, hk, rfl⟩ := h
  exact Nat.mul_le_mul (Nat.le_pred_of_lt hc) (Nat.pow_le_pow_right (by decide) hk)

/-- Rounding a representable magnitude is exact. -/
theorem round_of_representable (neg : Bool) {m : Nat} (h : representable m) : F32.round neg m 1 = .fin neg m := by
  have hfin : roundSignificand m 1 * 2 ^ roundExponent m 1 < F32.limit := by
    have hle := representable_le h
    have : 0 < 2 ^ 253 := by positivity
    rw [rounded_lt_limit_iff m Nat.one_pos]
    generalize 2 ^ 253 = P at *
    omega
  have hoff := (round_nearest m Nat.one_pos h).1
  rw [round_eq, if_pos hfin]
  rw [offBy_eq, offBy_eq] at hoff
  congr 1
  omega

theorem ofInt_exact {i : Int} (h : i.natAbs < 2 ^ 24) :
    F32.ofInt i = .fin (decide (i < 0)) (i.natAbs * 2 ^ 149) :=
  round_of_representable _ ⟨i.natAbs, 149, h, by decide, rfl⟩

@[simp] theorem signed_false (m : Nat) : signed false m = m := rfl

@[simp] theorem signed_true (m : Nat) : signed true m = -m := rfl

@[simp] theorem signed_not (s : Bool) (m : Nat) : signed (!s) m = -signed s m := by
  cases s <;> simp

theorem signed_add (s : Bool) (m n : Nat) : signed s (m + n) = signed s m + signed s n := by
  cases s <;> simp [add_comm]

theorem signed_sub (s : Bool) {m n : Nat} (h : n ≤ m) : signed s (m - n) = signed s m - signed s n := by
  cases s <;> simp [Nat.cast_sub h, sub_eq_add_neg, add_comm]

/-- An integer rounded by its sign and magnitude, with the sign `zero` for 0. -/
theorem round_signed {z : Int} {neg zero : Bool} {a : Nat} (hz : z = signed neg a) (h0 : a = 0 → zero = neg) :
    F32.round neg a 1 = if z = 0 then .fin zero 0 else F32.round (decide (z < 0)) z.natAbs 1 := by
  obtain rfl | ha := Nat.eq_zero_or_pos a
  · have : z = 0 := by cases neg <;> simpa using hz
    rw [if_pos this, h0 rfl]
    exact round_of_representable neg representable_zero
  · cases neg <;> simp at hz <;> subst hz
    · rw [if_neg (by omega), decide_eq_false (by omega)]
      rfl
    · rw [if_neg (by omega), decide_eq_true (by omega), Int.natAbs_neg]
      rfl

/-- The sum of two numbers is their exact sum rounded once; a zero sum of opposite signs is +0. -/
theorem add_fin (s t : Bool) (m n : Nat) :
    (F32.fin s m).add (.fin t n) =
      if signed s m + signed t n = 0 then .fin (s && t) 0
      else F32.round (decide (signed s m + signed t n < 0)) (signed s m + signed t n).natAbs 1 := by
  simp only [F32.add]
  obtain rfl | hst := eq_or_ne s t
  · rw [if_pos rfl]
    exact round_signed (signed_add s m n).symm fun _ => Bool.and_self s
  · obtain rfl := Bool.eq_not_of_ne hst.symm
    rw [if_neg hst, signed_not, ← sub_eq_add_neg]
    obtain hlt | rfl | hgt := Nat.lt_trichotomy n m
    · rw [if_neg hlt.ne', if_pos hlt]
      exact round_signed (signed_sub s hlt.le).symm (by omega)
    · simp
    · rw [if_neg hgt.ne, if_neg hgt.not_gt]
      exact round_signed (by rw [signed_not, signed_sub s hgt.le, neg_sub]) (by omega)

/-- The difference is the sum with the second sign changed. -/
theorem sub_fin (s t : Bool) (m n : Nat) :
    (F32.fin s m).sub (.fin t n) =
      if signed s m - signed t n = 0 then .fin (s && !t) 0
      else F32.round (decide (signed s m - signed t n < 0)) (signed s m - signed t n).natAbs 1 := by
  have h : (F32.fin s m).sub (.fin t n) = (F32.fin s m).add (.fin (!t) n) := rfl
  rw [h, add_fin, signed_not, ← sub_eq_add_neg]

/-- The product is the exact product rounded once: `m × n` counts units of 2^-298. -/
theorem mul_fin (s t : Bool) (m n : Nat) :
    (F32.fin s m).mul (.fin t n) = F32.round (s != t) (m * n) (2 ^ 149) := rfl

/-- The quotient is the exact quotient rounded once; a number by zero is infinite, zero by zero a NaN. -/
theorem div_fin (s t : Bool) (m n : Nat) :
    (F32.fin s m).div (.fin t n) =
      if n ≠ 0 then F32.round (s != t) (m * 2 ^ 149) n else if m ≠ 0 then .inf (s != t) else .nan := by
  simp only [F32.div, F32.one, ite_not]

/-- A finite rounding keeps the sign, and its magnitude is the nearest representable one, even in a tie. -/
theorem round_fin_nearestEven {neg s : Bool} {n d m : Nat} (hd : 0 < d) (h : F32.round neg n d = .fin s m) :
    s = neg ∧ representable m ∧ (∀ m', representable m' → offBy n d m ≤ offBy n d m') ∧
      ∀ m', representable m' → m' ≠ m → offBy n d m = offBy n d m' → F32.magBits m % 2 = 0 := by
  have hsig := roundSignificand_le n hd
  have hfull := roundSignificand_full n hd
  rw [round_eq] at h
  split at h <;> cases h
  refine ⟨rfl, representable_of_lt_limit hsig hfull ‹_›, fun m' hm => (round_nearest n hd hm).1,
    fun m' hm hne heq => ?_⟩
  have heven := (round_nearest n hd hm).2 hne heq
  rw [magBits_mul hsig hfull]
  omega

theorem round_finite (neg : Bool) {n d : Nat} (hd : 0 < d) (h : 2 * n < (2 ^ 25 - 1) * 2 ^ 253 * d) :
    ∃ m, F32.round neg n d = .fin neg m :=
  ⟨_, (round_eq neg n d).trans (if_pos ((rounded_lt_limit_iff n hd).mpr h))⟩

theorem round_overflow (neg : Bool) {n d : Nat} (hd : 0 < d) (h : (2 ^ 25 - 1) * 2 ^ 253 * d ≤ 2 * n) :
    F32.round neg n d = .inf neg :=
  (round_eq neg n d).trans (if_neg fun hlt => Nat.not_lt.mpr h ((rounded_lt_limit_iff n hd).mp hlt))

/-- An operation with a NaN is a NaN. -/
theorem op_nan : ∀ op ∈ [F32.add, F32.sub, F32.mul, F32.div], ∀ v : F32, op .nan v = .nan ∧ op v .nan = .nan := by
  simp only [List.forall_mem_cons]
  refine ⟨?_, ?_, ?_, ?_, by simp⟩ <;> intro v <;> cases v <;> exact ⟨rfl, rfl⟩

/-- Sums with an infinity. -/
theorem add_inf (s t : Bool) (m : Nat) :
    (F32.inf s).add (.fin t m) = .inf s ∧ (F32.fin t m).add (.inf s) = .inf s ∧
      (F32.inf s).add (.inf t) = if s = t then .inf s else .nan := ⟨rfl, rfl, rfl⟩

/-- Differences with an infinity. -/
theorem sub_inf (s t : Bool) (m : Nat) :
    (F32.inf s).sub (.fin t m) = .inf s ∧ (F32.fin t m).sub (.inf s) = .inf (!s) ∧
      (F32.inf s).sub (.inf t) = if s = t then .nan else .inf s := by
  refine ⟨rfl, rfl, ?_⟩
  cases s <;> cases t <;> rfl

/-- Products with an infinity. -/
theorem mul_inf (s t : Bool) (m : Nat) :
    (F32.inf s).mul (.fin t m) = (if m = 0 then .nan else .inf (s != t)) ∧
      (F32.fin t m).mul (.inf s) = (if m = 0 then .nan else .inf (s != t)) ∧
      (F32.inf s).mul (.inf t) = .inf (s != t) := by
  refine ⟨rfl, ?_, rfl⟩
  rw [bne_comm (a := s)]
  rfl

/-- Quotients with an infinity. -/
theorem div_inf (s t : Bool) (m : Nat) :
    (F32.inf s).div (.fin t m) = .inf (s != t) ∧ (F32.fin t m).div (.inf s) = .fin (s != t) 0 ∧
      (F32.inf s).div (.inf t) = .nan := by
  refine ⟨rfl, ?_, rfl⟩
  rw [bne_comm (a := s)]
  rfl

/-- Settles O58: the rounding by its nearest integer of units, each operation by its own equation. -/
theorem binary32RoundsToNearestEven : Obligations.Binary32RoundsToNearestEven := by
  unfold Obligations.Binary32RoundsToNearestEven
  refine ⟨fun neg n d hd => ⟨fun s m => round_fin_nearestEven hd, round_finite neg hd, round_overflow neg hd⟩,
    fun i => ofInt_exact, fun s t m n => ⟨add_fin s t m n, sub_fin s t m n, mul_fin s t m n, div_fin s t m n⟩,
    fun s t m => ⟨add_inf s t m, sub_inf s t m, mul_inf s t m, div_inf s t m⟩, op_nan⟩

end Sys2Proof.Machine
end

section
/-!
binary32 patterns: what a pattern of given fields reads as, and what a register takes for a value; O57
(00_scope.md R10).
-/

namespace Sys2Proof.Machine

theorem signBit_eq (neg : Bool) : F32.signBit neg = neg.toNat * 2 ^ 31 := by cases neg <;> rfl

/-- The pattern of a sign, an exponent field and a fraction field. -/
def packed (neg : Bool) (e f : Nat) : Word := BitVec.ofNat 32 (F32.signBit neg + e * 2 ^ 23 + f)

section
variable (neg : Bool) {e f : Nat} (he : e < 2 ^ 8) (hf : f < 2 ^ 23)
include he hf

theorem packed_toNat : (packed neg e f).toNat = neg.toNat * 2 ^ 31 + e * 2 ^ 23 + f := by
  have := Bool.toNat_le neg
  rw [packed, BitVec.toNat_ofNat, signBit_eq, Nat.mod_eq_of_lt (by omega)]

theorem packed_exponent : ((packed neg e f).extractLsb' 23 8).toNat = e := by
  rw [BitVec.extractLsb'_toNat, packed_toNat neg he hf, Nat.shiftRight_eq_div_pow]
  omega

theorem packed_fraction : ((packed neg e f).extractLsb' 0 23).toNat = f := by
  rw [BitVec.extractLsb'_toNat, packed_toNat neg he hf, Nat.shiftRight_zero]
  omega

theorem packed_msb : (packed neg e f).msb = neg := by
  rw [BitVec.msb_eq_decide, packed_toNat neg he hf]
  cases neg <;> simp only [Bool.toNat_true, Bool.toNat_false, decide_eq_true_eq, decide_eq_false_iff_not] <;> omega

/-- The value of a pattern by its fields. -/
theorem ofBits_packed :
    F32.ofBits (packed neg e f) =
      if e = 255 then (if f = 0 then .inf neg else .nan)
      else if e = 0 then .fin neg f else .fin neg ((f + 2 ^ 23) * 2 ^ (e - 1)) := by
  simp only [F32.ofBits, packed_exponent neg he hf, packed_fraction neg he hf, packed_msb neg he hf]

theorem isNanPattern_packed : F32.isNanPattern (packed neg e f) = true ↔ e = 255 ∧ f ≠ 0 := by
  simp only [F32.isNanPattern, Bool.and_eq_true, decide_eq_true_eq, ne_eq, ← BitVec.toNat_inj,
    packed_exponent neg he hf, packed_fraction neg he hf]
  rfl

end

/-- Every pattern has its fields. -/
theorem exists_packed (b : Word) : ∃ neg e f, e < 2 ^ 8 ∧ f < 2 ^ 23 ∧ b = packed neg e f := by
  refine ⟨b.msb, b.toNat / 2 ^ 23 % 2 ^ 8, b.toNat % 2 ^ 23, Nat.mod_lt _ (by decide), Nat.mod_lt _ (by decide), ?_⟩
  apply BitVec.eq_of_toNat_eq
  rw [packed_toNat _ (Nat.mod_lt _ (by decide)) (Nat.mod_lt _ (by decide)), BitVec.msb_eq_decide]
  have := b.isLt
  by_cases h : 2 ^ (32 - 1) ≤ b.toNat
  · rw [decide_eq_true h, Bool.toNat_true]; omega
  · rw [decide_eq_false h, Bool.toNat_false]; omega

/-- A number of full significand, or of the least exponent, takes the fields of that significand and exponent. -/
theorem toBits_fin (neg : Bool) (x : Word) {c k : Nat} (hc : c < 2 ^ 24) (hn : k = 0 ∨ 2 ^ 23 ≤ c) :
    (F32.fin neg (c * 2 ^ k)).toBits x =
      if c < 2 ^ 23 then packed neg 0 c else packed neg (k + 1) (c - 2 ^ 23) := by
  rw [F32.toBits, magBits_mul hc.le hn]
  unfold packed
  split <;> exact congrArg (BitVec.ofNat 32) (by omega)

theorem toBits_inf (neg : Bool) (x : Word) : (F32.inf neg).toBits x = packed neg 255 0 := rfl

theorem toBits_ofBits (x : Word) {b : Word} (h : F32.isNanPattern b = false) : (F32.ofBits b).toBits x = b := by
  obtain ⟨neg, e, f, he, hf, rfl⟩ := exists_packed b
  rw [ofBits_packed neg he hf]
  by_cases hinf : e = 255
  · have h0 : f = 0 := by
      by_contra hne
      simp [(isNanPattern_packed neg he hf).mpr ⟨hinf, hne⟩] at h
    rw [if_pos hinf, if_pos h0, toBits_inf, hinf, h0]
  · rw [if_neg hinf]
    by_cases hsub : e = 0
    · have := toBits_fin neg x (c := f) (k := 0) (by omega) (.inl rfl)
      rw [if_pos hsub, hsub]
      simpa only [pow_zero, Nat.mul_one, if_pos hf] using this
    · rw [if_neg hsub, toBits_fin neg x (by omega) (.inr (by omega)), if_neg (by omega)]
      exact congrArg₂ (packed neg) (by omega) (by omega)

theorem ofBits_eq_nan_iff (b : Word) : F32.ofBits b = .nan ↔ F32.isNanPattern b = true := by
  obtain ⟨neg, e, f, he, hf, rfl⟩ := exists_packed b
  rw [ofBits_packed neg he hf, isNanPattern_packed neg he hf]
  split
  · split <;> simp_all
  · split <;> simp_all

theorem isNanPattern_nanPattern (n : Nat) : F32.isNanPattern (F32.nanPattern n) = true := by
  have hf := (Config.nanDraw n).2.isLt
  exact (isNanPattern_packed (Config.nanDraw n).1 (e := 255) (by decide) (Nat.succ_lt_succ hf)).mpr
    ⟨rfl, Nat.succ_ne_zero _⟩

theorem ofBits_toBits_fin (neg : Bool) (x : Word) {m : Nat} (h : representable m) :
    F32.ofBits ((F32.fin neg m).toBits x) = .fin neg m := by
  obtain ⟨c, k, hc, hk, rfl, hn⟩ := representable_normal h
  rw [toBits_fin neg x hc hn]
  split
  · obtain rfl : k = 0 := by omega
    rw [ofBits_packed neg (by decide) ‹_›]
    simp
  · rw [ofBits_packed neg (by omega) (by omega), if_neg (by omega), if_neg (by omega), Nat.add_sub_cancel,
      Nat.sub_add_cancel (by omega)]

theorem ofBits_toBits_inf (neg : Bool) (x : Word) : F32.ofBits ((F32.inf neg).toBits x) = .inf neg :=
  ofBits_packed neg (e := 255) (f := 0) (by decide) (by decide)

/-- Settles O57: `storeF32` is `toBits` with the cycle's draw. -/
theorem binary32PatternsAgree : Obligations.Binary32PatternsAgree := by
  unfold Obligations.Binary32PatternsAgree
  exact ⟨fun b x => toBits_ofBits x, ofBits_eq_nan_iff, isNanPattern_nanPattern, fun s axis =>
    ⟨fun b => toBits_ofBits _, fun neg m => ofBits_toBits_fin neg _, fun neg => ofBits_toBits_inf neg _,
      isNanPattern_nanPattern _⟩⟩

end Sys2Proof.Machine
end

section
/-!
What a segment can do to the registers that the invariant of the block speaks of, said once for every command: the PWM
output, the sensitivity, the sweep index, the flags CFG_FATAL and CAL_DONE, and CODE.
-/

namespace Sys2Proof.Machine

/-- The registers that no segment writes but those of GYRO.INIT and GYRO.CALIBRATE and those that steer. -/
structure GuardedRegs where
  cfg        : Config
  gyroSens   : Word
  gyroRange  : Word
  initOk     : Bool
  calDone    : Bool
  cfgFatal   : Bool
  servoPulse : Half
  pwmWr      : Bool
  pwmWrites  : Word

/-- The guarded registers as a state holds them. -/
def State.guarded (s : State) : GuardedRegs :=
  ⟨s.cfg, s.gyroSens, s.gyroRange, s.initOk, s.calDone, s.cfgFatal, s.servoPulse, s.pwmWr, s.pwmWrites⟩

/-- The checked PWM write on these registers (43_servo.md R180). -/
def GuardedRegs.write (p : Half) (g : GuardedRegs) : GuardedRegs :=
  if g.cfg.inRange p then { g with servoPulse := p, pwmWr := true, pwmWrites := g.pwmWrites + 1#32 } else g

theorem servoWrite_guarded (p : Half) (s : State) : (servoWrite p s).guarded = s.guarded.write p := by
  unfold servoWrite GuardedRegs.write
  exact apply_ite State.guarded ..

theorem gapRecord_guarded (p : Half) (k : BitVec 3) (d : Word) (s : State) :
    (gapRecord p k d s).guarded = s.guarded := by
  unfold gapRecord; split <;> rfl

theorem initNext_guarded (r : GyroRange) (s : State) : (initNext r s).guarded = s.guarded := by
  unfold initNext; split <;> rfl

/-- The two codes of a configuration error (60_exceptions.md R250). -/
def Code.isConfigError (c : Code) : Bool := c == .invalidRange || c == .gyroBusErr

theorem Code.isConfigError_iff (c : Code) : c.isConfigError = true ↔ c = .invalidRange ∨ c = .gyroBusErr := by
  simp [Code.isConfigError]

/-- What a segment can do to the registers of the invariant. -/
structure SegmentMoves (s t : State) : Prop where
  /-- The PWM output holds, or takes a pulse in range with its strobe and its count. -/
  pwm : (t.servoPulse = s.servoPulse ∧ t.pwmWr = s.pwmWr ∧ t.pwmWrites = s.pwmWrites) ∨
    (s.cfg.inRange t.servoPulse = true ∧ t.pwmWr = true ∧ t.pwmWrites = s.pwmWrites + 1#32)
  /-- The sensitivity and its range hold, or are set together. -/
  sensitivity : (t.gyroRange = s.gyroRange ∧ t.gyroSens = s.gyroSens ∧ (s.initOk = false → t.initOk = false)) ∨
    ∃ r, rangeOf t.gyroRange = some r ∧ t.gyroSens = sens r
  sweep : s.seqK ≤ lastSweep → t.seqK ≤ lastSweep
  cfgFatal : s.cfgFatal = true → t.cfgFatal = true
  calDone : s.calDone = true → t.calDone = true
  code : t.code = s.code ∨ t.code.isConfigError = false ∨ t.cfgFatal = true

section
variable {s t : State} {c : Code} {p : Half}

theorem SegmentMoves.of_same (h : t.guarded = s.guarded) (hk : s.seqK ≤ lastSweep → t.seqK ≤ lastSweep)
    (hc : t.code = s.code ∨ t.code.isConfigError = false) : SegmentMoves s t := by
  simp only [State.guarded, GuardedRegs.mk.injEq] at h
  obtain ⟨-, hsens, hrange, hinit, hcal, hfatal, hpulse, hwr, hwrites⟩ := h
  exact ⟨.inl ⟨hpulse, hwr, hwrites⟩, .inl ⟨hrange, hsens, hinit.trans⟩, hk, hfatal.trans, hcal.trans,
    hc.imp_right .inl⟩

theorem SegmentMoves.refl (s : State) : SegmentMoves s s := .of_same rfl id (.inl rfl)

/-- A segment that ends its command and leaves the guarded registers alone. -/
theorem SegmentMoves.of_finish {u : State} (h : u.guarded = s.guarded) (hk : u.seqK = s.seqK)
    (hc : c.isConfigError = false) : SegmentMoves s (finish c u) :=
  .of_same h (fun hs => hk ▸ hs) (.inr hc)

/-- A segment whose only guarded writes are those of one checked PWM write. -/
theorem SegmentMoves.of_write (h : t.guarded = s.guarded.write p) (hk : s.seqK ≤ lastSweep → t.seqK ≤ lastSweep)
    (hc : t.code = s.code ∨ t.code.isConfigError = false) : SegmentMoves s t := by
  unfold GuardedRegs.write at h
  split at h
  · rename_i hp
    simp only [State.guarded, GuardedRegs.mk.injEq] at h hp
    obtain ⟨-, hsens, hrange, hinit, hcal, hfatal, hpulse, hwr, hwrites⟩ := h
    exact ⟨.inr ⟨hpulse ▸ hp, hwr, hwrites⟩, .inl ⟨hrange, hsens, hinit.trans⟩, hk, hfatal.trans, hcal.trans,
      hc.imp_right .inl⟩
  · exact .of_same h hk hc

theorem zero_le_lastSweep : 0#3 ≤ lastSweep := by decide

/-- Steering, after writes to none of these registers. -/
theorem steerThen_moves {u : State} {l : Seg} (h : u.guarded = s.guarded)
    (hk : s.seqK ≤ lastSweep → u.seqK ≤ lastSweep) (hc : u.code = s.code) : SegmentMoves s (steerThen p l u) := by
  refine .of_write (p := p) ?_ ?_ (.inl ?_)
  · exact h ▸ servoWrite_guarded p u
  · simpa [steerThen] using hk
  · simpa [steerThen] using hc

end

/-! One lemma per command that writes guarded registers. -/

theorem initFail_moves (s : State) : SegmentMoves s (initFail s) :=
  ⟨.inl ⟨rfl, rfl, rfl⟩, .inl ⟨rfl, rfl, fun _ => rfl⟩, id, fun _ => rfl, id, .inr (.inr rfl)⟩

/-- The next write of GYRO.INIT, after writes to none of these registers. -/
theorem initNext_moves {s u : State} {r : GyroRange} (h : u.guarded = s.guarded) (hk : u.seqK = s.seqK)
    (hc : u.code = s.code) : SegmentMoves s (initNext r u) :=
  .of_same ((initNext_guarded r u).trans h) (by unfold initNext; split <;> simp [hk])
    (.inl (by unfold initNext; split <;> simp [hc]))

theorem execGyroInit_moves {range : Word} {s t : State} (h : execGyroInit range s = .next t) : SegmentMoves s t := by
  unfold execGyroInit at h
  split at h
  · cases h
    exact ⟨.inl ⟨rfl, rfl, rfl⟩, .inl ⟨rfl, rfl, id⟩, id, fun _ => rfl, id, .inr (.inr rfl)⟩
  · cases h; exact initNext_moves rfl rfl rfl
  · split at h <;> cases h
    · exact .refl s
    · split
      · exact initFail_moves s
      · exact initNext_moves rfl rfl rfl
  · split at h <;> cases h
    · exact .refl s
    · split
      · exact initFail_moves s
      · exact ⟨.inl ⟨rfl, rfl, rfl⟩, .inr ⟨_, ‹_›, rfl⟩, id, id, id, .inr (.inl rfl)⟩
  · cases h

theorem calFinish_moves (s : State) : SegmentMoves s (calFinish s) :=
  ⟨.inl ⟨rfl, rfl, rfl⟩, .inl ⟨rfl, rfl, id⟩, id, id, fun _ => rfl, .inr (.inl rfl)⟩

theorem execGyroCalibrate_moves {s t : State} (h : execGyroCalibrate s = .next t) : SegmentMoves s t := by
  unfold execGyroCalibrate at h
  split at h
  · cases h
    split
    · exact .of_finish rfl rfl rfl
    · split
      · exact .of_finish rfl rfl rfl
      · exact .of_same rfl id (.inl rfl)
  · split at h <;> cases h
    · exact .refl s
    · exact .of_same rfl id (.inl rfl)
  · cases h
    split
    · exact .of_same rfl id (.inl rfl)
    · exact calFinish_moves s
  · cases h

theorem execServoSetHeading_moves {yaw : Word} {s t : State} (h : execServoSetHeading yaw s = .next t) :
    SegmentMoves s t := by
  unfold execServoSetHeading at h
  split at h
  · split at h
    · split at h <;> cases h
      exact .of_write (servoWrite_guarded _ s) (by simp) (.inr rfl)
    · cases h; exact .of_finish rfl rfl rfl
  · cases h

theorem execServoSetPulse_moves {pulse : Word} {s t : State} (h : execServoSetPulse pulse s = .next t) :
    SegmentMoves s t := by
  unfold execServoSetPulse at h
  split at h <;> cases h
  split
  · exact .of_write (servoWrite_guarded _ s) (by simp) (.inr rfl)
  · exact .of_finish rfl rfl rfl

theorem gapRight_moves (s : State) : SegmentMoves s (gapRight s) := by
  unfold gapRight
  split <;> exact steerThen_moves rfl id rfl

theorem gapLeft_moves {s t : State} (h : gapLeft s = .next t) : SegmentMoves s t := by
  unfold gapLeft at h
  split at h
  · cases h; exact steerThen_moves rfl id rfl
  · split at h <;> cases h
    exact steerThen_moves rfl (fun _ => zero_le_lastSweep) rfl

theorem gapSweep_moves {s t : State} (h : gapSweep s = .next t) : SegmentMoves s t := by
  unfold gapSweep at h
  dsimp only at h
  split at h
  · cases h
  · split at h
    · rename_i hk
      split at h <;> cases h
      exact steerThen_moves (gapRecord_guarded ..) (fun _ => succ_le_lastSweep hk) (by simp [gapMeasure])
    · cases h
      exact steerThen_moves (gapRecord_guarded ..) (by simp [gapMeasure]) (by simp [gapMeasure])

theorem gapEnd_moves (s : State) : SegmentMoves s (gapEnd s) :=
  .of_finish rfl rfl (by split <;> rfl)

theorem execGapFind_moves {s t : State} (h : execGapFind s = .next t) : SegmentMoves s t := by
  have measure (l : Seg) : SegmentMoves s (measureStart l s) := .of_same rfl id (.inl rfl)
  unfold execGapFind at h
  split at h
  · cases h; exact steerThen_moves rfl (fun _ => zero_le_lastSweep) rfl
  · cases h; exact measure _
  · cases h; exact gapRight_moves s
  · cases h; exact measure _
  · exact gapLeft_moves h
  · cases h; exact measure _
  · exact gapSweep_moves h
  · cases h; exact gapEnd_moves s
  · cases h

/-- Every segment of every command moves the guarded registers so. -/
theorem exec_moves {i : Instr} {s t : State} (h : exec i s = .next t) : SegmentMoves s t := by
  cases i with
  | nop => simp only [exec, execNop] at h; split at h <;> cases h; exact .of_finish rfl rfl rfl
  | echoTrigger => simp only [exec, execEchoTrigger] at h; split at h <;> cases h; exact .of_finish rfl rfl rfl
  | echoRead =>
    simp only [exec, execEchoRead] at h
    split at h <;> cases h
    · exact .of_same rfl id (.inl rfl)
    · split <;> exact .of_finish rfl rfl rfl
  | echoConvert tc ovf => simp only [exec, execEchoConvert] at h; split at h <;> cases h; exact .of_finish rfl rfl rfl
  | gyroInit r => exact execGyroInit_moves h
  | gyroCalibrate => exact execGyroCalibrate_moves h
  | gyroSample dt =>
    simp only [exec, execGyroSample] at h
    split at h
    · cases h
      split
      · exact .of_finish rfl rfl rfl
      · exact .of_same rfl id (.inl rfl)
    · split at h <;> cases h
      · exact .refl s
      · exact .of_finish rfl rfl rfl
    · cases h
  | gyroReset => simp only [exec, execGyroReset] at h; split at h <;> cases h; exact .of_finish rfl rfl rfl
  | servoSetHeading y => exact execServoSetHeading_moves h
  | servoSetPulse p => exact execServoSetPulse_moves h
  | servoAngleToPulse a =>
    simp only [exec, execServoAngleToPulse] at h
    split at h
    · split at h <;> cases h <;> exact .of_finish rfl rfl rfl
    · cases h
  | gapFind => exact execGapFind_moves h
  | gapPulseToAngle p =>
    simp only [exec, execGapPulseToAngle] at h
    split at h
    · split at h <;> cases h <;> exact .of_finish rfl rfl rfl
    · cases h

/-- The segment of the latched word is exec of its command, or ILLEGAL's (30_encoding.md R84; 40_command.md R107). -/
theorem runSegment_cases {s t : State} (h : runSegment s = .next t) :
    (∃ i, decode (currentWord s) = .ok i ∧ exec i s = .next t) ∨
      ((∃ e, decode (currentWord s) = .error e) ∧ t = finish .illegal s) := by
  unfold runSegment at h
  split at h
  · exact .inl ⟨_, ‹_›, h⟩
  · unfold execIllegal at h
    split at h <;> cases h
    exact .inr ⟨⟨_, ‹_›⟩, rfl⟩

theorem idleSequencer_guarded (s : State) : (idleSequencer s).guarded = s.guarded := by simp [State.guarded]

/-- Phase 6 moves the guarded registers as a segment does. -/
theorem sequencerPhase_moves {s t : State} (h : sequencerPhase s = .next t) : SegmentMoves s t := by
  obtain ⟨l, -, hr⟩ | ⟨-, rfl⟩ := sequencerPhase_cases h
  · obtain ⟨i, -, hi⟩ | ⟨-, rfl⟩ := runSegment_cases hr
    · exact exec_moves hi
    · exact .of_finish rfl rfl rfl
  · exact .of_same (idleSequencer_guarded s) (by simp) (.inl (by simp))

end Sys2Proof.Machine
end

section
/-!
The sequencer's bookkeeping and the heading commands' along a cycle: from one cycle boundary to the next, through phases
2 to 5, the segment that is due, and the host (10_state.md R45).
-/

namespace Sys2Proof.Machine

/-- Phases 2 to 7 of a cycle with no reset: the sequencer's on the state that phases 2 to 5 leave, then the host's. -/
theorem step_phases {s t : State} (hr : (nextInputs s).reset = false) (h : step s = .next t) :
    ∃ u, sequencerPhase (atSequencer s) = .next u ∧ t = hostPhase (nextInputs s).host u := by
  obtain ⟨-, ⟨hr', -⟩ | ⟨-, hu⟩⟩ := step_cases h
  · simp [hr] at hr'
  · exact hu

theorem sequencerFits_iff (s : State) :
    SequencerFits s ↔
      (s.seqStep = .idle ∧ s.busy = false ∧ s.busPend = none) ∨
        ∃ l, s.seqStep = .seg l ∧ s.busy = true ∧ labelFits (currentWord s) l = true ∧ s.busPend = l.awaits := by
  unfold SequencerFits
  cases s.seqStep <;> simp

/-- A word's first segment is always one of its own (40_command.md R100, R107). -/
theorem labelFits_s0 (w : CommandWord) : labelFits w .s0 = true := by
  unfold labelFits
  split
  · rename_i i _
    cases i <;> rfl
  · rfl

/-- A segment of the latched command leaves the sequencer at one of the command's labels, or idle. -/
theorem SeqAfter.sequencerFits {i : Instr} {t : State} (h : SeqAfter i t) (hd : decode (currentWord t) = .ok i) :
    SequencerFits t := by
  rw [sequencerFits_iff]
  obtain hi | ⟨l, hs, hl, hb, hp⟩ := h
  · exact .inl hi
  · exact .inr ⟨l, hs, hb, by simpa [labelFits, hd] using hl, hp⟩

/-- Phase 5 accepts the response that is waited for, or the cycle has none (20_memory.md R73). -/
theorem atSequencer_bus (s : State) :
    (s.busPend.isSome = true ∧ (atSequencer s).busPend = none ∧ (atSequencer s).busRsp.isSome = true) ∨
      ((atSequencer s).busPend = s.busPend ∧ (atSequencer s).busRsp = none) := by
  obtain ⟨hp, -, hn, hr⟩ | ⟨-, hk⟩ := busPhase_cases (nextInputs s)
    (edgePhase (nextInputs s).echoIn (triggerTick (timerTick (beginCycle s))))
  · exact .inl ⟨by simpa using hp, hn, by simp [atSequencer, autonomous, hr]⟩
  · exact .inr (by simp [atSequencer, autonomous, hk])

/-- With no request outstanding at the boundary there is none in phase 6. -/
theorem atSequencer_busPend_none {s : State} (h : s.busPend = none) : (atSequencer s).busPend = none := by
  obtain ⟨-, hn, -⟩ | ⟨hn, -⟩ := atSequencer_bus s
  · exact hn
  · exact hn.trans h

/-- A segment that is due finds a busy block at a label of its command, with nothing outstanding any more. -/
theorem SequencerFits.due {s : State} {l : Seg} (h : SequencerFits s) (hd : dueSegment (atSequencer s) = some l) :
    (atSequencer s).seqStep = .seg l ∧ (atSequencer s).busy = true ∧ labelFits (currentWord (atSequencer s)) l = true ∧
      (atSequencer s).busPend = none ∧ (l.awaits.isSome = true → (atSequencer s).busRsp.isSome = true) := by
  obtain ⟨hs, hrsp, -⟩ := dueSegment_some hd
  have hs' : s.seqStep = .seg l := by simpa [atSequencer] using hs
  obtain ⟨hi, -⟩ | ⟨m, hm, hb, hl, hp⟩ := (sequencerFits_iff s).mp h
  · simp [hi] at hs'
  · obtain rfl : m = l := by simpa [hm] using hs'
    refine ⟨hs, by simpa [atSequencer] using hb, ?_, ?_, hrsp⟩
    · rw [atSequencer, atSequencer_currentWord]; exact hl
    · cases ha : m.awaits with
      | none => exact atSequencer_busPend_none (hp.trans ha)
      | some k =>
        obtain ⟨-, hn, -⟩ | ⟨-, hn⟩ := atSequencer_bus s
        · exact hn
        · simp [hn, ha] at hrsp

/-- What the latched command's segment that is due leaves. -/
theorem SequencerFits.seqAfter {s u : State} {l : Seg} {i : Instr} (h : SequencerFits s)
    (hd : dueSegment (atSequencer s) = some l) (hx : exec i (atSequencer s) = .next u) : SeqAfter i u := by
  obtain ⟨hs, hb, -, hp, hrsp⟩ := h.due hd
  refine exec_seqAfter hx hp hb fun m hm => ?_
  obtain rfl : l = m := by simpa [hs] using hm
  exact hrsp

/-- Where no segment is due the sequencer stands as it stood: an accepted response would have made its segment due. -/
theorem SequencerFits.not_due {s : State} (h : SequencerFits s) (hd : dueSegment (atSequencer s) = none) :
    (atSequencer s).busPend = s.busPend := by
  obtain ⟨hp, -, hr⟩ | ⟨hn, -⟩ := atSequencer_bus s
  · obtain ⟨-, -, hi⟩ | ⟨l, hs, -, -, hl⟩ := (sequencerFits_iff s).mp h
    · simp [hi] at hp
    · have hs' : (atSequencer s).seqStep = .seg l := by simpa [atSequencer] using hs
      simp [dueSegment, hs', ← hl, hp, hr] at hd
  · exact hn

/-- Phase 6 keeps the sequencer's bookkeeping (10_state.md R41, R44, R45). -/
theorem sequencerPhase_sequencerFits {s u : State} (h : SequencerFits s)
    (hu : sequencerPhase (atSequencer s) = .next u) : SequencerFits u := by
  obtain ⟨l, hd, hr⟩ | ⟨hd, rfl⟩ := sequencerPhase_cases hu
  · obtain ⟨i, hi, hx⟩ | ⟨-, rfl⟩ := runSegment_cases hr
    · exact (h.seqAfter hd hx).sequencerFits ((congrArg decode (exec_same hx).currentWord).trans hi)
    · obtain ⟨-, -, -, hp, -⟩ := h.due hd
      exact (sequencerFits_iff _).mpr (.inl ⟨rfl, rfl, hp⟩)
  · have hn := h.not_due hd
    rw [sequencerFits_iff] at h ⊢
    rw [(idleSequencer_same _).currentWord, atSequencer, atSequencer_currentWord]
    simpa [atSequencer, ← hn] using h

/-- Phase 7 leaves the sequencer alone, but for the acceptance of a command by an idle block (40_command.md R100). -/
theorem hostPhase_sequencer (a : HostAccess) (s : State) :
    ((hostPhase a s).seqStep = s.seqStep ∧ (hostPhase a s).busy = s.busy ∧
        currentWord (hostPhase a s) = currentWord s) ∨
      (s.busy = false ∧ (hostPhase a s).seqStep = .seg .s0 ∧ (hostPhase a s).busy = true) := by
  cases a with
  | none => exact .inl ⟨rfl, rfl, rfl⟩
  | read addr => exact .inl ⟨rfl, rfl, rfl⟩
  | write addr v =>
    simp only [hostPhase, hostWrite, writeCmdOp]
    split
    · exact .inl ⟨rfl, rfl, rfl⟩
    · split
      · split
        · exact .inl ⟨rfl, rfl, rfl⟩
        · exact .inr ⟨by simpa using ‹¬ s.busy = true›, rfl, rfl⟩
      · exact .inl ⟨rfl, rfl, rfl⟩

theorem hostPhase_sequencerFits (a : HostAccess) {s : State} (h : SequencerFits s) : SequencerFits (hostPhase a s) := by
  rw [sequencerFits_iff] at h ⊢
  obtain ⟨hs, hb, hw⟩ | ⟨hb, hs, hb'⟩ := hostPhase_sequencer a s
  · simpa [hs, hb, hw] using h
  · obtain ⟨-, -, hp⟩ | ⟨-, -, hb'', -⟩ := h
    · exact .inr ⟨.s0, hs, hb', labelFits_s0 _, by simpa [Seg.awaits] using hp⟩
    · simp [hb] at hb''

/-! The gyroscope's labels (42_heading.md R154, R155). -/

/-- `HeadingFits` reads SEQ_STEP, INIT_OK and CAL_DONE alone. -/
theorem HeadingFits.congr {s t : State} (h : HeadingFits s) (hs : t.seqStep = s.seqStep) (hi : t.initOk = s.initOk)
    (hc : t.calDone = s.calDone) : HeadingFits t := by
  unfold HeadingFits at *
  rw [hs, hi, hc]
  exact h

/-- It says nothing of a state at another label than the three that follow a read. -/
theorem headingFits_of_seqAfter {i : Instr} {t : State} (h : SeqAfter i t) (h1 : hasSegment i .calC1 = false)
    (h2 : hasSegment i .calC2 = false) (h3 : hasSegment i .sampleS1 = false) : HeadingFits t := by
  obtain ⟨hs, -⟩ | ⟨l, hs, hl, -⟩ := h
  · simp [HeadingFits, hs]
  · cases l <;> simp_all [HeadingFits]

theorem execGyroCalibrate_headingFits {s t : State} (h : execGyroCalibrate s = .next t) (hf : HeadingFits s) :
    HeadingFits t := by
  unfold execGyroCalibrate at h
  split at h
  · cases h
    split
    · trivial
    · split
      · trivial
      · exact ⟨by simpa using ‹¬ s.initOk = false›, by simpa using ‹¬ s.calDone = true›⟩
  · rename_i hs
    split at h <;> cases h
    · exact hf
    · simpa [HeadingFits, hs, calSample] using hf
  · rename_i hs
    cases h
    split
    · simpa [HeadingFits, hs] using hf
    · trivial
  · cases h

theorem execGyroSample_headingFits {dt : Word} {s t : State} (h : execGyroSample dt s = .next t) (hf : HeadingFits s) :
    HeadingFits t := by
  unfold execGyroSample at h
  split at h
  · cases h
    split
    · trivial
    · exact (by simpa using ‹¬ s.initOk = false› : s.initOk = true)
  · split at h <;> cases h
    · exact hf
    · trivial
  · cases h

/-- A segment that is due keeps it: the other commands have none of the three labels. -/
theorem exec_headingFits {i : Instr} {s t : State} (h : exec i s = .next t) (hf : HeadingFits s)
    (ha : SeqAfter i t) : HeadingFits t := by
  cases i with
  | gyroCalibrate => exact execGyroCalibrate_headingFits h hf
  | gyroSample dt => exact execGyroSample_headingFits h hf
  | _ => exact headingFits_of_seqAfter ha rfl rfl rfl

end Sys2Proof.Machine
end

section
/-!
The invariant of the block: at reset, under every step, and that it keeps the machine from stopping. Then the step
statements that follow from what phase 6 can write.
-/

namespace Sys2Proof.Machine

/-- The block's invariant at reset, for every configuration (10_state.md R50). -/
theorem blockInv_resetWith (cfg : Config) : BlockInv (State.resetWith cfg) := by
  have counters : CountersFit (State.resetWith cfg) :=
    ⟨zero_le_lastSweep, (by decide : 0#8 ≤ 20#8), by simp [State.resetWith]⟩
  exact ⟨⟨rfl, rfl⟩, ⟨rfl, rfl⟩, .inl ⟨rfl, rfl, rfl⟩, ⟨.inl rfl, by simp [State.resetWith]⟩, counters, trivial⟩

/-- The trigger phase never counts up (41_echo.md R122). -/
theorem triggerTick_trigCnt_le (s : State) : (triggerTick s).trigCnt ≤ s.trigCnt := by
  unfold triggerTick
  split
  · rename_i h
    show s.trigCnt - 1#8 ≤ s.trigCnt
    bv_omega
  · exact BitVec.le_refl _

theorem atSequencer_trigCnt_le (s : State) : (atSequencer s).trigCnt ≤ s.trigCnt := by
  simpa [atSequencer, autonomous] using triggerTick_trigCnt_le (timerTick (beginCycle s))

/-! Each clause of the invariant over a cycle with no reset: `u` is the state that phase 6 leaves. -/

section
variable {s u : State} (a : HostAccess) (hu : sequencerPhase (atSequencer s) = .next u)
include hu

theorem cycle_edgesPaired (h : EdgesPaired s) : EdgesPaired (hostPhase a u) := by
  have same := sequencerPhase_same hu
  have paired := edgePhase_paired (nextInputs s).echoIn (s := triggerTick (timerTick (beginCycle s)))
    (by simpa [EdgesPaired] using h)
  simp [EdgesPaired, same.phase, same.echoSync, same.trun, atSequencer, autonomous, paired]

theorem cycle_sequencerFits (h : SequencerFits s) : SequencerFits (hostPhase a u) :=
  hostPhase_sequencerFits a (sequencerPhase_sequencerFits h hu)

theorem cycle_sensitivityFits (h : SensitivityFits s) : SensitivityFits (hostPhase a u) := by
  have moves := (sequencerPhase_moves hu).sensitivity
  simp only [SensitivityFits, hostPhase_gyroRange, hostPhase_gyroSens, hostPhase_initOk]
  obtain ⟨hr, hs, hi⟩ | hset := moves
  · simp only [atSequencer, autonomous_gyroRange, autonomous_gyroSens, autonomous_initOk, beginCycle_gyroRange,
      beginCycle_gyroSens, beginCycle_initOk] at hr hs hi
    rw [hr, hs]
    exact h.imp_left fun ⟨h0, h1, h2⟩ => ⟨h0, h1, hi h2⟩
  · exact .inr hset

theorem cycle_pulseFits (h : PulseFits s) : PulseFits (hostPhase a u) := by
  have hcfg : u.cfg = s.cfg := by simp [(sequencerPhase_same hu).cfg, atSequencer]
  simp only [PulseFits, hostPhase_cfg, hostPhase_servoPulse, hostPhase_pwmWr, hcfg]
  obtain ⟨hp, hw, -⟩ | ⟨hp, -⟩ := (sequencerPhase_moves hu).pwm
  · have hw0 : u.pwmWr = false := by simpa [atSequencer] using hw
    have hp0 : u.servoPulse = s.servoPulse := by simpa [atSequencer] using hp
    simpa [hw0, hp0] using h.1
  · have hin : s.cfg.inRange u.servoPulse = true := by simpa [atSequencer] using hp
    exact ⟨.inr hin, fun _ => hin⟩

theorem cycle_trigCnt_le (h : s.trigCnt ≤ 20#8) : u.trigCnt ≤ 20#8 := by
  have before : (atSequencer s).trigCnt ≤ 20#8 := BitVec.le_trans (atSequencer_trigCnt_le s) h
  obtain ⟨l, hd, hr⟩ | ⟨-, rfl⟩ := sequencerPhase_cases hu
  · obtain ⟨i, -, hx⟩ | ⟨-, rfl⟩ := runSegment_cases hr
    · rw [exec_trigCnt hx (dueSegment_some hd).1]
      split
      · exact BitVec.le_refl _
      · exact before
    · exact before
  · simpa using before

theorem cycle_countersFit (h : CountersFit s) : CountersFit (hostPhase a u) := by
  obtain ⟨hk, ht, hc⟩ := h
  have moves := sequencerPhase_moves hu
  refine ⟨?_, by simpa using cycle_trigCnt_le hu ht, ?_⟩
  · simpa using moves.sweep (by simpa [atSequencer] using hk)
  · simp only [hostPhase_code, hostPhase_cfgFatal, ← Code.isConfigError_iff] at hc ⊢
    intro he
    obtain hsame | hno | hset := moves.code
    · refine moves.cfgFatal ?_
      have hs : s.code.isConfigError = true := by simpa [hsame, atSequencer] using he
      simpa [atSequencer] using hc hs
    · simp [hno] at he
    · exact hset

theorem cycle_headingFits (h : HeadingFits s) (hf : SequencerFits s) : HeadingFits (hostPhase a u) := by
  have before : HeadingFits (atSequencer s) := h.congr (by simp [atSequencer]) (by simp [atSequencer])
    (by simp [atSequencer])
  have after : HeadingFits u := by
    obtain ⟨l, hd, hr⟩ | ⟨-, rfl⟩ := sequencerPhase_cases hu
    · obtain ⟨i, -, hx⟩ | ⟨-, rfl⟩ := runSegment_cases hr
      · exact exec_headingFits hx before (hf.seqAfter hd hx)
      · trivial
    · exact before.congr (by simp) (by simp) (by simp)
  obtain ⟨hs, -, -⟩ | ⟨-, hs, -⟩ := hostPhase_sequencer a u
  · exact after.congr hs (by simp) (by simp)
  · simp [HeadingFits, hs]

end

/-- Settles O9. -/
theorem resetMeetsTheInvariant : Obligations.ResetMeetsTheInvariant := by
  unfold Obligations.ResetMeetsTheInvariant
  exact fun cfg => ⟨blockInv_resetWith cfg, ⟨rfl, rfl, rfl⟩, trivial, zero_le_lastSweep⟩

/-- Settles O10: a reset cycle starts the invariant again, and every clause survives phases 2 to 7 of any other. -/
theorem stepKeepsTheInvariant : Obligations.StepKeepsTheInvariant := by
  unfold Obligations.StepKeepsTheInvariant
  intro s t hinv h
  obtain ⟨-, ⟨-, rfl⟩ | ⟨hr, -⟩⟩ := step_cases h
  · exact blockInv_resetWith s.cfg
  · obtain ⟨u, hu, rfl⟩ := step_phases hr h
    obtain ⟨hedge, hseq, hsens, hpulse, hcnt, hhead⟩ := hinv
    exact ⟨cycle_edgesPaired _ hu hedge, cycle_sequencerFits _ hu hseq, cycle_sensitivityFits _ hu hsens,
      cycle_pulseFits _ hu hpulse, cycle_countersFit _ hu hcnt, cycle_headingFits _ hu hhead hseq⟩

/-- A latched word's segment answers a state at any label of the word. -/
theorem runSegment_next {s : State} {l : Seg} (hl : labelFits (currentWord s) l = true) (hs : s.seqStep = .seg l)
    (hk : s.seqK ≤ lastSweep) : ∃ t, runSegment s = .next t := by
  cases hd : decode (currentWord s) with
  | ok i =>
    simp only [runSegment, hd]
    exact exec_next (by simpa [labelFits, hd] using hl) hs hk
  | error e =>
    obtain rfl : l = .s0 := by simpa [labelFits, hd] using hl
    exact ⟨finish .illegal s, by simp [runSegment, hd, execIllegal, hs]⟩

/-- Phase 6 of a block that meets the invariant answers a state. -/
theorem sequencerPhase_next {s : State} (hf : SequencerFits s) (hk : s.seqK ≤ lastSweep) :
    ∃ u, sequencerPhase (atSequencer s) = .next u := by
  unfold sequencerPhase
  split
  · rename_i hd
    obtain ⟨hs, -, hl, -, -⟩ := hf.due hd
    exact runSegment_next hl hs (by simpa [atSequencer] using hk)
  · exact ⟨_, rfl⟩

/-- Settles O12: a reset cycle always ends, and in any other phase 6 answers a state. -/
theorem noInputStopsTheBlock : Obligations.NoInputStopsTheBlock := by
  unfold Obligations.NoInputStopsTheBlock
  intro s hw ⟨_, hf, _, _, ⟨hk, _, _⟩, _⟩
  cases hr : (nextInputs s).reset with
  | true => exact ⟨resetCycle (beginCycle s), by simp [step, hw, cycleWith, hr]⟩
  | false =>
    obtain ⟨u, hu⟩ := sequencerPhase_next hf hk
    exact ⟨_, step_of_sequencer hw hr hu⟩

/-- Only a falling edge writes DURATION before phase 6 (41_echo.md R123 to R125). -/
theorem edgePhase_duration {e : Bool} {s : State} (h : ¬ (e ≠ s.echoSync ∧ s.phase = true)) :
    (edgePhase e s).duration = s.duration := by
  unfold edgePhase
  split
  · rename_i he
    have hp : s.phase = false := by simpa using fun hp => h ⟨he, hp⟩
    simp [hp, risingEdge]
  · rfl

/-- Settles O18: phases 6 and 7 never write DURATION, and before them only the falling edge does. -/
theorem durationChangesOnlyAtAFallingEdge : Obligations.DurationChangesOnlyAtAFallingEdge := by
  unfold Obligations.DurationChangesOnlyAtAFallingEdge
  intro s t hr h hno
  obtain ⟨u, hu, rfl⟩ := step_phases hr h
  have hedge := edgePhase_duration (e := (nextInputs s).echoIn) (s := triggerTick (timerTick (beginCycle s)))
    (by simpa using hno)
  simp [(sequencerPhase_same hu).duration, atSequencer, autonomous, hedge]

/-- Settles O29: no segment clears either flag, and no other phase writes one. -/
theorem stickyFlagsClearOnlyAtReset : Obligations.StickyFlagsClearOnlyAtReset := by
  unfold Obligations.StickyFlagsClearOnlyAtReset
  intro s t hr h
  obtain ⟨u, hu, rfl⟩ := step_phases hr h
  have moves := sequencerPhase_moves hu
  exact ⟨by simpa [atSequencer] using moves.cfgFatal, by simpa [atSequencer] using moves.calDone⟩

/-- Settles O51: the strobe is 0 when the cycle begins, and a segment writes the pulse once with strobe and count or not
at all. -/
theorem pwmWritesCountsTheStrobes : Obligations.PwmWritesCountsTheStrobes := by
  unfold Obligations.PwmWritesCountsTheStrobes
  intro s t hr h
  obtain ⟨u, hu, rfl⟩ := step_phases hr h
  obtain ⟨hp, hw, hn⟩ | ⟨-, hw, hn⟩ := (sequencerPhase_moves hu).pwm
  · simp [State.pwmVal, hp, hw, hn, atSequencer]
  · simp [hw, hn, atSequencer]

/-- Settles O4: the decoder's answer picks the segment that runs, and nothing changes the word before it does. -/
theorem stepRunsTheLatchedCommand : Obligations.StepRunsTheLatchedCommand := by
  unfold Obligations.StepRunsTheLatchedCommand
  intro s hw hr
  have hword : currentWord (atSequencer s) = currentWord s := atSequencer_currentWord _ s
  have hstep : step s = thenHost (nextInputs s).host (sequencerPhase (atSequencer s)) := by
    simp [step, hw, cycleWith, hr, atSequencer]
  refine ⟨fun i l hd hl => ?_, fun e hd hl => ?_, fun hn => ?_⟩
  · simp [hstep, sequencerPhase, hl, runSegment, hword, hd]
  · have hs : (atSequencer s).seqStep = .seg .s0 := (dueSegment_some hl).1
    simp [hstep, sequencerPhase, hl, runSegment, hword, hd, execIllegal, hs, thenHost]
  · simp [hstep, sequencerPhase_of_none hn, thenHost]

/-- Settles O8. -/
theorem resetValues : Obligations.ResetValues := by
  unfold Obligations.ResetValues
  intro cfg
  simp [State.resetWith, State.trigOut, State.pwmVal, State.busPending, State.gapInfoWord, State.statusWord, bit,
    Code.bits, GapPath.bits]

end Sys2Proof.Machine
end

section
/-!
The gyroscope bus: what a response and its absence do to a segment that waits for one, when the block drives a request,
and O20 (20_memory.md R72, R73).
-/

namespace Sys2Proof.Machine

/-- Without a response phase 5 accepts none (20_memory.md R73). -/
theorem atSequencer_of_silent {s : State} (h : (nextInputs s).grspValid = false) :
    (atSequencer s).busPend = s.busPend ∧ (atSequencer s).busRsp = none := by
  simp [atSequencer, autonomous, busPhase, h]

/-- A response to an outstanding request is accepted with its status and its bytes (20_memory.md R73). -/
theorem atSequencer_of_response {s : State} (hp : s.busPend.isSome = true) (h : (nextInputs s).grspValid = true) :
    (atSequencer s).busPend = none ∧
      (atSequencer s).busRsp = some ⟨(nextInputs s).grspStatus, (nextInputs s).grspData⟩ := by
  simp [atSequencer, autonomous, busPhase, State.busPending, h, hp]

/-- A segment that waits on the bus is due exactly in a cycle that accepted a response (10_state.md R45). -/
theorem dueSegment_awaiting {s : State} {l : Seg} (hs : s.seqStep = .seg l) (ha : l.awaits.isSome = true) :
    dueSegment (atSequencer s) = if (atSequencer s).busRsp.isSome = true then some l else none := by
  have hl : (atSequencer s).seqStep = .seg l := by simpa [atSequencer] using hs
  simp [dueSegment, hl, ha]

/-- A cycle with no reset in which no segment is due leaves the bus as phases 2 to 5 left it, and drives no request. -/
theorem bus_of_not_due {s t : State} (hr : (nextInputs s).reset = false) (h : step s = .next t)
    (hd : dueSegment (atSequencer s) = none) : t.busPend = (atSequencer s).busPend ∧ t.greq = none := by
  obtain ⟨u, hu, rfl⟩ := step_phases hr h
  obtain rfl : idleSequencer (atSequencer s) = u := by simpa [sequencerPhase_of_none hd] using hu
  exact ⟨by simp, by simp [atSequencer]⟩

/-- A cycle with no reset in which a segment is due drives a request exactly when it leaves one of its kind outstanding
(20_memory.md R72): the segment begins with none, on the lines or outstanding. -/
theorem greq_of_due {s t : State} {l : Seg} (hf : SequencerFits s) (hr : (nextInputs s).reset = false)
    (h : step s = .next t) (hd : dueSegment (atSequencer s) = some l) :
    t.greq.map GyroRequest.kind = t.busPend := by
  obtain ⟨u, hu, rfl⟩ := step_phases hr h
  obtain ⟨-, -, -, hp, -⟩ := hf.due hd
  have hg : (atSequencer s).greq = none := by simp [atSequencer]
  have hrun : runSegment (atSequencer s) = .next u := by simpa [sequencerPhase, hd] using hu
  rw [hostPhase_greq, hostPhase_busPend]
  obtain ⟨i, -, hx⟩ | ⟨-, rfl⟩ := runSegment_cases hrun
  · exact exec_greq hx hp hg
  · simp [hp, hg]

/-- A segment that waits on the bus waits through any number of cycles with no response and no reset, its request still
outstanding. -/
theorem run_bus_wait {l : Seg} (ha : l.awaits.isSome = true) (n : Nat) :
    ∀ s : State, s.cfg.wf = true → s.busy = true → s.seqStep = .seg l → noResetFor n s →
      (∀ k, k < n → (s.inputsAt k).grspValid = false) →
      ∃ t, core.run n s = .next t ∧ SameWait s t ∧ t.busPend = s.busPend := by
  induction n with
  | zero => exact fun s _ _ _ _ _ => ⟨s, rfl, .refl s, rfl⟩
  | succ n ih =>
    intro s hw hb hs hr hv
    obtain ⟨hpend, hrsp⟩ := atSequencer_of_silent (s := s) (nextInputs_eq s ▸ hv 0 (Nat.succ_pos n))
    have hd : dueSegment (atSequencer s) = none := by simp [dueSegment_awaiting hs ha, hrsp]
    obtain ⟨t, ht, same, -⟩ := step_of_not_due hw hb (noResetFor_next hr) hd
    have hbus : t.busPend = s.busPend := (bus_of_not_due (noResetFor_next hr) ht hd).1.trans hpend
    have hvt : ∀ k, k < n → (t.inputsAt k).grspValid = false := fun k hk =>
      inputsAt_step ht k ▸ hv (k + 1) (Nat.succ_lt_succ hk)
    obtain ⟨u, hu, sameU, hbusU⟩ := ih t (same.cfg ▸ hw) (same.busy.trans hb) (same.seqStep.trans hs)
      (noResetFor_step ht hr) hvt
    exact ⟨u, (core_run_succ ht n).trans hu, same.trans sameU, hbusU.trans hbus⟩

/-- Settles O20: the silent bus by induction on the cycles, the response by phase 5, and the request by whether the cycle
runs a segment. -/
theorem silentBusHangsTheCommand : Obligations.SilentBusHangsTheCommand := by
  unfold Obligations.SilentBusHangsTheCommand
  refine ⟨fun s l n hw hb hs ha hr hv => ?_, fun s l hs ha hp hv => ?_, fun s t hr h => ⟨fun hd => ?_, fun hinv hd => ?_⟩⟩
  · obtain ⟨t, ht, same, hbus⟩ := run_bus_wait ha n s hw hb hs hr hv
    have hts : t.seqStep = .seg l := same.seqStep.trans hs
    exact ⟨t, ht, hts, hbus, same.busy.trans hb, same.currentWord, same.result, same.code, by simp [Quiescent, hts]⟩
  · obtain ⟨hpend, hrsp⟩ := atSequencer_of_response hp hv
    exact ⟨by simp [dueSegment_awaiting hs ha, hrsp], hpend, hrsp⟩
  · exact (bus_of_not_due hr h hd).2
  · obtain ⟨-, hf, -⟩ := hinv
    obtain ⟨l, hl⟩ := Option.ne_none_iff_exists'.mp hd
    exact greq_of_due hf hr h hl

end Sys2Proof.Machine
end

section
/-!
The host port: a read leaves the cycle as it is, the addresses outside the map and the read-only ones, and what each
mapped address reads (20_memory.md R61 to R65), with O22, O23 and O24.
-/

namespace Sys2Proof.Machine

/-- Phases 1 to 5 do not look at the host's access (10_state.md R45). -/
theorem atSequencer_host (s : State) (inp : Inputs) (rest : List Inputs) (a b : HostAccess) :
    atSequencer { s with script := { inp with host := a } :: rest } =
      atSequencer { s with script := { inp with host := b } :: rest } := rfl

/-- Settles O22: both steps are the same phases 1 to 6, which leave HOST_RDATA none, and the host phase of a read writes
HOST_RDATA alone. -/
theorem hostReadsHaveNoSideEffect : Obligations.HostReadsHaveNoSideEffect := by
  unfold Obligations.HostReadsHaveNoSideEffect
  intro s t inp rest addr hr h
  obtain ⟨hw, -⟩ := step_cases h
  obtain ⟨u, hu, rfl⟩ := step_phases (by exact hr) h
  have same := atSequencer_host s inp rest (.read addr) .none
  exact ⟨step_of_sequencer hw hr ((congrArg sequencerPhase same).trans hu),
    (sequencerPhase_same hu).hostRData.trans (by simp [atSequencer])⟩

/-- No register stands at a misaligned address or at 0x50 and above (20_memory.md R61, R63). -/
theorem hostReg_of_dead {addr : Byte} (h : addr.toNat % 4 ≠ 0 ∨ 0x50 ≤ addr.toNat) : hostReg addr = none := by
  unfold hostReg
  split
  case h_21 => rfl
  all_goals exact absurd h (by decide)

/-- Settles O23. -/
theorem deadAndReadOnlyAddresses : Obligations.DeadAndReadOnlyAddresses := by
  unfold Obligations.DeadAndReadOnlyAddresses
  intro s addr v
  refine ⟨fun h => ?_, rfl, fun h0 h4 => ?_, rfl⟩
  · simp [hostRead, hostReg_of_dead h]
  · simp [hostPhase, hostWrite, h0, h4]

/-- The number of two fields side by side. -/
theorem append_toNat {m n : Nat} (x : BitVec m) (y : BitVec n) : (x ++ y).toNat = x.toNat * 2 ^ n + y.toNat := by
  rw [BitVec.toNat_append, ← Nat.shiftLeft_add_eq_or_of_lt y.isLt, Nat.shiftLeft_eq]

theorem bit_toNat (b : Bool) : (bit b).toNat = b.toNat := BitVec.toNat_ofBool b

/-- STATUS by the weights of its fields (10_state.md R42). -/
theorem statusWord_toNat (s : State) :
    s.statusWord.toNat = s.busy.toNat + 2 ^ 4 * s.code.bits.toNat + 2 ^ 8 * s.cfgFatal.toNat + 2 ^ 9 * s.ovr.toNat +
      2 ^ 10 * s.initOk.toNat + 2 ^ 11 * s.calDone.toNat + 2 ^ 16 * s.lastOpc.toNat := by
  simp only [State.statusWord, append_toNat, bit_toNat, BitVec.toNat_ofNat]
  omega

/-- ECHO_STATE by the weights of its fields (20_memory.md R63). -/
theorem echoStateWord_toNat (s : State) :
    s.echoStateWord.toNat = s.phase.toNat + 2 * s.echoNew.toNat + 2 ^ 2 * s.trun.toNat +
      2 ^ 3 * (decide (s.trigCnt ≠ 0#8)).toNat + 2 ^ 4 * s.echoSync.toNat + 2 ^ 8 * s.tcnt.toNat +
      2 ^ 16 * s.ovf.toNat := by
  simp only [State.echoStateWord, State.trigOut, append_toNat, bit_toNat, BitVec.toNat_ofNat]
  omega

/-- GAP_INFO by the weights of its fields (10_state.md R39). -/
theorem gapInfoWord_toNat (s : State) :
    s.gapInfoWord.toNat = s.gapPath.bits.toNat + 2 ^ 4 * s.gapIdx.toNat + 2 ^ 8 * s.gapStaleAny.toNat := by
  simp only [State.gapInfoWord, append_toNat, bit_toNat, BitVec.toNat_ofNat]
  omega

/-- Settles O24: the map by its table, the three assembled words by their weights. -/
theorem hostRegisterMap : Obligations.HostRegisterMap := by
  unfold Obligations.HostRegisterMap
  have half (p : Half) : (p.setWidth 32).toNat = p.toNat := BitVec.toNat_setWidth_of_le (by decide)
  exact ⟨rfl, rfl, fun s => ⟨⟨rfl, rfl, rfl⟩, statusWord_toNat s, ⟨rfl, rfl⟩, echoStateWord_toNat s, ⟨rfl, rfl⟩,
    ⟨rfl, rfl, rfl⟩, ⟨rfl, rfl, rfl⟩, ⟨half s.servoPulse, rfl⟩, ⟨half s.gapSel, rfl⟩, gapInfoWord_toNat s⟩⟩

end Sys2Proof.Machine
end

section
/-!
Decoding a command word and encoding a command: what the opcode map gives for each opcode, that a command word is its
three fields, and O1, O2 and O3 (30_encoding.md R80 to R90).
-/

namespace Sys2Proof

/-- A command word is its three fields (30_encoding.md R80). -/
theorem commandWord_ext {v w : CommandWord} (ho : opcOf v = opcOf w) (hr : rsvOf v = rsvOf w) (ha : argOf v = argOf w) :
    v = w := by
  have ho' := congrArg BitVec.toNat ho
  have hr' := congrArg BitVec.toNat hr
  have ha' := congrArg BitVec.toNat ha
  rw [opcOf_toNat, opcOf_toNat] at ho'
  rw [rsvOf_toNat, rsvOf_toNat] at hr'
  rw [argOf_toNat, argOf_toNat] at ha'
  apply BitVec.eq_of_toNat_eq
  have hv := v.isLt
  have hw := w.isLt
  omega

@[simp] theorem opcOf_and (v w : CommandWord) : opcOf (v &&& w) = opcOf v &&& opcOf w := BitVec.extractLsb'_and

@[simp] theorem rsvOf_and (v w : CommandWord) : rsvOf (v &&& w) = rsvOf v &&& rsvOf w := BitVec.extractLsb'_and

@[simp] theorem argOf_and (v w : CommandWord) : argOf (v &&& w) = argOf v &&& argOf w := BitVec.extractLsb'_and

@[simp] theorem opcOf_encode (i : Instr) : opcOf (encode i) = i.opc := by simp [encode]

@[simp] theorem rsvOf_encode (i : Instr) : rsvOf (encode i) = 0#24 := by simp [encode]

@[simp] theorem argOf_encode (i : Instr) : argOf (encode i) = i.arg := by simp [encode]

/-- The fields of the `echo` form are the 24 low bits of ARG (30_encoding.md R82). -/
theorem echo_arg_of_fields (arg : Word) :
    (Instr.echoConvert (echoCount arg) (echoOverflow arg)).arg = arg &&& 0x00FFFFFF#32 := by
  have hmask : arg.toNat &&& (0x00FFFFFF#32).toNat = arg.toNat % 2 ^ 24 := Nat.and_two_pow_sub_one_eq_mod _ 24
  apply BitVec.eq_of_toNat_eq
  rw [Instr.arg_echo_toNat, BitVec.toNat_and, hmask, echoCount, echoOverflow, BitVec.extractLsb'_toNat,
    BitVec.extractLsb'_toNat, Nat.shiftRight_eq_div_pow, Nat.shiftRight_eq_div_pow]
  omega

/-- The opcode map gives a command back from its own opcode and ARG (30_encoding.md R82, R83). -/
@[simp] theorem decodeOp_opc_arg (i : Instr) : decodeOp i.opc i.arg = some i := by
  cases i with
  | echoConvert tc ovf => simp only [decodeOp, Instr.opc, echoCount_arg, echoOverflow_arg]
  | _ => rfl

/-- A command of the opcode map has the opcode it was looked up by, and the ARG but for the bits that it ignores
(30_encoding.md R82, R83, R86). -/
theorem decodeOp_some {opc : Byte} {arg : Word} {i : Instr} (h : decodeOp opc arg = some i) :
    i.opc = opc ∧ i.arg = arg &&& i.argMask := by
  have none_form : 0#32 = arg &&& 0#32 := BitVec.and_zero.symm
  have word_form : arg = arg &&& 0xFFFFFFFF#32 := (BitVec.and_allOnes ..).symm
  unfold decodeOp at h
  split at h <;> cases h
  case h_4 => exact ⟨rfl, echo_arg_of_fields arg⟩
  case h_5 | h_7 | h_9 | h_10 | h_11 | h_13 => exact ⟨rfl, word_form⟩
  all_goals exact ⟨rfl, none_form⟩

/-- The opcode map has the thirteen opcodes and no other (30_encoding.md R83). -/
theorem decodeOp_eq_none_iff (opc : Byte) (arg : Word) : decodeOp opc arg = none ↔ opc ∉ Machine.opcodeMap := by
  unfold decodeOp
  split
  case h_14 => simp_all [Machine.opcodeMap]
  all_goals simp [Machine.opcodeMap]

/-- A word decodes to a command exactly where RSV = 0 and the opcode map has the command (30_encoding.md R84). -/
theorem decode_eq_ok_iff (w : CommandWord) (i : Instr) :
    decode w = .ok i ↔ rsvOf w = 0#24 ∧ decodeOp (opcOf w) (argOf w) = some i := by
  unfold decode
  split
  · cases decodeOp (opcOf w) (argOf w) <;> simp [*]
  · simp [*]

theorem decode_encode (i : Instr) : decode (encode i) = .ok i := by simp [decode_eq_ok_iff]

theorem encode_of_decode {w : CommandWord} {i : Instr} (h : decode w = .ok i) :
    encode i = w &&& commandWord 0xFFFFFFFF#32 i.argMask := by
  obtain ⟨hrsv, hop⟩ := (decode_eq_ok_iff w i).mp h
  obtain ⟨hopc, harg⟩ := decodeOp_some hop
  apply commandWord_ext
  · rw [opcOf_encode, hopc, opcOf_and, opcOf_commandWord]
    exact (BitVec.and_allOnes ..).symm
  · simp [hrsv]
  · simp [harg]

/-- Settles O1: each way is a fact of the opcode map, carried to words by their three fields. -/
theorem decodeAndEncodeAgree : Obligations.DecodeAndEncodeAgree := by
  unfold Obligations.DecodeAndEncodeAgree
  exact ⟨decode_encode, fun _ _ => encode_of_decode⟩

/-- Settles O2: the opcode map has a command exactly at its thirteen opcodes, and RSV decides before it is asked. -/
theorem everyWordSelectsACommandOrIllegal : Obligations.EveryWordSelectsACommandOrIllegal := by
  unfold Obligations.EveryWordSelectsACommandOrIllegal
  intro op arg
  refine ⟨fun hrsv hopc => ?_, fun hrsv hopc => ?_, fun hrsv => ?_⟩
  · have hsome : decodeOp (op.extractLsb' 24 8) arg ≠ none := by simpa [decodeOp_eq_none_iff] using hopc
    obtain ⟨i, hi⟩ := Option.ne_none_iff_exists'.mp hsome
    exact ⟨i, by simp [decode_eq_ok_iff, hrsv, hi], (decodeOp_some hi).1⟩
  · simp [decode, hrsv, (decodeOp_eq_none_iff _ arg).mpr hopc]
  · simp [decode, hrsv]

/-- A line that assembles to a command has the command's two halves, and they decode to it. -/
theorem assemblesTo_of_assembleLine {line : String} {op arg : Word} (i : Instr) (h : assembleLine line = some i)
    (ho : i.cmdOp = op) (ha : i.arg = arg) : Machine.assemblesTo line op arg :=
  ⟨i, h, ho, ha, ho ▸ ha ▸ decode_encode i⟩

/-- Settles O3: each row by its command; that the halves decode back is `decode_encode`. -/
theorem exampleCommandWords : Obligations.ExampleCommandWords := by
  unfold Obligations.ExampleCommandWords
  refine ⟨assemblesTo_of_assembleLine .nop ?_ rfl rfl, assemblesTo_of_assembleLine .echoTrigger ?_ rfl rfl,
    assemblesTo_of_assembleLine .echoRead ?_ rfl rfl,
    assemblesTo_of_assembleLine (.echoConvert 116#8 0#16) ?_ rfl rfl,
    assemblesTo_of_assembleLine (.echoConvert 116#8 1#16) ?_ rfl rfl,
    assemblesTo_of_assembleLine (.gyroInit 250#32) ?_ rfl rfl,
    assemblesTo_of_assembleLine (.gyroInit 2000#32) ?_ rfl rfl,
    assemblesTo_of_assembleLine .gyroCalibrate ?_ rfl rfl,
    assemblesTo_of_assembleLine (.gyroSample 0x3CA3D70A#32) ?_ rfl rfl,
    assemblesTo_of_assembleLine .gyroReset ?_ rfl rfl,
    assemblesTo_of_assembleLine (.servoSetHeading 0x41480000#32) ?_ rfl rfl,
    assemblesTo_of_assembleLine (.servoSetPulse 1500#32) ?_ rfl rfl,
    assemblesTo_of_assembleLine (.servoAngleToPulse 135#32) ?_ rfl rfl,
    assemblesTo_of_assembleLine .gapFind ?_ rfl rfl,
    assemblesTo_of_assembleLine (.gapPulseToAngle 2000#32) ?_ rfl rfl⟩
  all_goals decide

end Sys2Proof
end

section
/-!
The issue of a command: a cycle of an idle block is phases 2 to 5 and the host's access, what the host's two writes do,
and O27 (30_encoding.md R81, R89; 40_command.md R100).
-/

namespace Sys2Proof.Machine

/-- Phase 6 of an idle block does nothing (10_state.md R45). -/
theorem sequencerPhase_of_idle {s : State} (hi : s.seqStep = .idle) : sequencerPhase s = .next s := by
  simp [sequencerPhase, dueSegment, idleSequencer, hi]

/-- A cycle of an idle block with no reset is phases 2 to 5 and then the host's access. -/
theorem step_of_idle {s : State} {inp : Inputs} {rest : List Inputs} (hw : s.cfg.wf = true) (hi : s.seqStep = .idle)
    (hs : s.script = inp :: rest) (hr : inp.reset = false) :
    step s = .next (hostPhase inp.host (atSequencer s)) := by
  obtain rfl : nextInputs s = inp := by simp [nextInputs, hs]
  exact step_of_sequencer hw hr (sequencerPhase_of_idle (by simpa using hi))

/-- A write to CMD_ARG keeps the value (20_memory.md R65). -/
theorem hostPhase_write_cmdArg (v : Word) (s : State) : hostPhase (.write 0x00#8 v) s = { s with cmdArg := v } := rfl

/-- A write to CMD_OP is accepted while BUSY = 0 (40_command.md R100). -/
theorem hostPhase_write_cmdOp {s : State} (hb : s.busy = false) (v : Word) :
    hostPhase (.write 0x04#8 v) s = latchCommand v s.cmdArg { s with cmdOp := v } := by
  simp [hostPhase, hostWrite, writeCmdOp, hb]

/-- The word that a latched command runs (10_state.md R40). -/
@[simp] theorem currentWord_latchCommand (op arg : Word) (s : State) :
    currentWord (latchCommand op arg s) = commandWord op arg := rfl

/-- Settles O27: the first cycle keeps the ARG and leaves the block idle, the second latches the word. -/
theorem issueStartsTheCommand : Obligations.IssueStartsTheCommand := by
  unfold Obligations.IssueStartsTheCommand
  intro s i a b rest hw hb hi hra hrb hiss hs
  obtain ⟨ha, hb'⟩ : HostAccess.write 0x00#8 i.arg = a.host ∧ HostAccess.write 0x04#8 i.cmdOp = b.host := by
    simpa [issue] using hiss
  have first := step_of_idle hw hi hs hra
  rw [← ha, hostPhase_write_cmdArg] at first
  have hs' : ({ atSequencer s with cmdArg := i.arg } : State).script = b :: rest := by
    simp [atSequencer, beginCycle, hs]
  have second := step_of_idle (s := { atSequencer s with cmdArg := i.arg }) (by simpa [atSequencer] using hw)
    (by simpa [atSequencer] using hi) hs' hrb
  have harg : (atSequencer { atSequencer s with cmdArg := i.arg }).cmdArg = i.arg := by simp [atSequencer]
  rw [← hb', hostPhase_write_cmdOp (by simpa [atSequencer] using hb), harg] at second
  exact ⟨_, (core_run_succ first 1).trans (core_run_succ second 0), decode_encode i, rfl, rfl, rfl, rfl,
    by simp [atSequencer], by simp [atSequencer], by simp [atSequencer]⟩

end Sys2Proof.Machine
end

section
/-!
Phases 2 to 5: which registers each of them can write, what the bus phase does with a response and without one, and O13
(41_echo.md R120 to R125; 20_memory.md R73).
-/

namespace Sys2Proof.Machine

/-- The timer phase writes TCNT and OVF alone (41_echo.md R120, R121). -/
theorem timerTick_frame (s : State) : ∃ tc ov, timerTick s = { s with tcnt := tc, ovf := ov } := by
  unfold timerTick
  split
  · split <;> exact ⟨_, _, rfl⟩
  · exact ⟨_, _, rfl⟩

/-- The trigger phase writes TRIG_CNT alone (41_echo.md R122). -/
theorem triggerTick_frame (s : State) : ∃ n, triggerTick s = { s with trigCnt := n } := by
  unfold triggerTick
  split <;> exact ⟨_, rfl⟩

/-- The edge phase writes the measurement's registers alone (41_echo.md R123 to R125). -/
theorem edgePhase_frame (e : Bool) (s : State) :
    ∃ tc ov run ph sync new d, edgePhase e s =
      { s with tcnt := tc, ovf := ov, trun := run, phase := ph, echoSync := sync, echoNew := new, duration := d } := by
  unfold edgePhase
  dsimp only
  split
  · split <;> exact ⟨_, _, _, _, _, _, _, rfl⟩
  · exact ⟨_, _, _, _, _, _, _, rfl⟩

/-- The bus phase writes the bus port alone (20_memory.md R73). -/
theorem busPhase_frame (inp : Inputs) (s : State) : ∃ p r, busPhase inp s = { s with busPend := p, busRsp := r } := by
  unfold busPhase
  split <;> exact ⟨_, _, rfl⟩

/-- Phases 2 to 5 write what the four of them write. -/
theorem autonomous_frame (inp : Inputs) (s : State) :
    ∃ tc ov run ph sync new d n p r, autonomous inp s =
      { s with
        tcnt := tc, ovf := ov, trun := run, phase := ph, echoSync := sync, echoNew := new, duration := d, trigCnt := n
        busPend := p, busRsp := r } := by
  obtain ⟨_, _, timer⟩ := timerTick_frame s
  obtain ⟨_, trigger⟩ := triggerTick_frame (timerTick s)
  obtain ⟨_, _, _, _, _, _, _, edge⟩ := edgePhase_frame inp.echoIn (triggerTick (timerTick s))
  obtain ⟨_, _, bus⟩ := busPhase_frame inp (edgePhase inp.echoIn (triggerTick (timerTick s)))
  exact ⟨_, _, _, _, _, _, _, _, _, _, by rw [autonomous, bus, edge, trigger, timer]⟩

/-- A response that is waited for is taken (20_memory.md R73). -/
theorem busPhase_of_response {inp : Inputs} {s : State} (hp : s.busPend.isSome = true) (hv : inp.grspValid = true) :
    (busPhase inp s).busPend = none ∧ (busPhase inp s).busRsp = some ⟨inp.grspStatus, inp.grspData⟩ := by
  obtain ⟨-, -, taken⟩ | ⟨hn | hn, -⟩ := busPhase_cases inp s
  · exact taken
  · simp [hn] at hp
  · simp [hn] at hv

/-- With no request outstanding or no response valid the bus phase does nothing (20_memory.md R73). -/
theorem busPhase_of_no_response {inp : Inputs} {s : State} (h : s.busPend = none ∨ inp.grspValid = false) :
    busPhase inp s = s := by
  obtain ⟨hp, hv, -⟩ | ⟨-, same⟩ := busPhase_cases inp s
  · obtain hn | hn := h
    · simp [hn] at hp
    · simp [hn] at hv
  · exact same

/-- Settles O13: the frame is the four phases' own, and the bus phase, the last of them, finds the port as it was. -/
theorem autonomousPhasesFrame : Obligations.AutonomousPhasesFrame := by
  unfold Obligations.AutonomousPhasesFrame
  intro inp s
  refine ⟨?_, ?_, fun hp hv => ?_, fun hv => ?_, fun hn => ?_⟩
  · obtain ⟨_, _, _, _, _, _, _, _, _, _, frame⟩ := autonomous_frame inp s
    rw [frame]
  · simp [autonomous]
  · exact busPhase_of_response (by simpa using hp) hv
  · simp [autonomous, busPhase_of_no_response (.inr hv)]
  · simp [autonomous, busPhase_of_no_response (.inl _), hn]

end Sys2Proof.Machine
end

section
/-!
The life of a command word: its acceptance or overrun at the host port, the word while the command is in progress, the
first cycle of a placed word, and `finish`, with O5, O25, O26, O28, O30 and O31 (40_command.md R100 to R107).
-/

namespace Sys2Proof.Machine

/-- A host access other than a write to CMD_OP touches CMD_ARG and HOST_RDATA at most (20_memory.md R64, R65). -/
theorem hostPhase_cases (a : HostAccess) (s : State) :
    (∃ v, a = .write 0x04#8 v) ∨ ∃ arg r, hostPhase a s = { s with cmdArg := arg, hostRData := r } := by
  cases a with
  | none => exact .inr ⟨_, _, rfl⟩
  | read addr => exact .inr ⟨_, _, rfl⟩
  | write addr v =>
    by_cases h4 : addr = 0x04#8
    · exact .inl ⟨v, by rw [h4]⟩
    · simp only [hostPhase, hostWrite, if_neg h4]
      split <;> exact .inr ⟨_, _, rfl⟩

/-- A write to CMD_OP is an overrun while BUSY = 1 (40_command.md R101). -/
theorem hostPhase_write_cmdOp_of_busy {s : State} (hb : s.busy = true) (v : Word) :
    hostPhase (.write 0x04#8 v) s = { s with cmdOp := v, ovr := true } := by
  simp [hostPhase, hostWrite, writeCmdOp, hb]

/-- No host access clears OVR (40_command.md R101). -/
theorem hostPhase_ovr_of_ovr (a : HostAccess) {s : State} (h : s.ovr = true) : (hostPhase a s).ovr = true := by
  obtain ⟨v, rfl⟩ | ⟨_, _, other⟩ := hostPhase_cases a s
  · cases hb : s.busy with
    | true => rw [hostPhase_write_cmdOp_of_busy hb]
    | false => simpa [hostPhase_write_cmdOp hb] using h
  · simpa [other] using h

/-- The host changes the latched word only where it issues a command to a block that is not busy (40_command.md R100,
R101). -/
theorem hostPhase_currentWord (a : HostAccess) (s : State) :
    currentWord (hostPhase a s) = currentWord s ∨
      ∃ v, a = .write 0x04#8 v ∧ s.busy = false ∧ currentWord (hostPhase a s) = commandWord v s.cmdArg := by
  obtain ⟨v, rfl⟩ | ⟨_, _, other⟩ := hostPhase_cases a s
  · cases hb : s.busy with
    | true => exact .inl (by rw [hostPhase_write_cmdOp_of_busy hb]; rfl)
    | false => exact .inr ⟨v, rfl, rfl, by simp [hostPhase_write_cmdOp hb]⟩
  · exact .inl (by rw [other]; rfl)

/-- Settles O26: no segment and no phase before it writes OVR, and the host only sets it. -/
theorem overrunIsRecordedAndIgnored : Obligations.OverrunIsRecordedAndIgnored := by
  unfold Obligations.OverrunIsRecordedAndIgnored
  refine ⟨fun s v hb => hostPhase_write_cmdOp_of_busy hb v, fun s t ho hr h => ?_⟩
  obtain ⟨u, hu, rfl⟩ := step_phases hr h
  have hou : u.ovr = s.ovr := (sequencerPhase_same hu).ovr.trans (by simp [atSequencer])
  exact hostPhase_ovr_of_ovr _ (hou.trans ho)

/-- Settles O28: phases 2 to 6 keep the latched word, so only the host's acceptance after phase 6 can change it. -/
theorem latchedWordHoldsWhileBusy : Obligations.LatchedWordHoldsWhileBusy := by
  unfold Obligations.LatchedWordHoldsWhileBusy
  intro s t _ hr h
  obtain ⟨u, hu, rfl⟩ := step_phases hr h
  have same := sequencerPhase_same hu
  have hword : currentWord u = currentWord s := same.currentWord.trans (atSequencer_currentWord _ s)
  have harg : u.cmdArg = s.cmdArg := same.cmdArg.trans (by simp [atSequencer])
  obtain hk | ⟨v, ha, hb, hv⟩ := hostPhase_currentWord (nextInputs s).host u
  · exact .inl (hk.trans hword)
  · exact .inr ⟨v, u, ha, hu, hb, harg ▸ hv⟩

/-- A placed word is the latched word (log entry 7). -/
theorem currentWord_withFetchWord (s : State) (w : CommandWord) : currentWord (s.withFetchWord 64 w.toNat) = w := by
  simp [State.withFetchWord, Nat.mod_eq_of_lt w.isLt, commandWord_halves]

/-- Phase 7 with no host access changes no answer of phase 6. -/
theorem thenHost_none (o : Host.Outcome State Fault Refusal) : thenHost .none o = o := by
  cases o <;> rfl

/-- Settles O5: the placed word's S0 is due in a cycle with no reset and no host access, so the step is its exec. -/
theorem placedWordRunsInTheNextStep : Obligations.PlacedWordRunsInTheNextStep := by
  unfold Obligations.PlacedWordRunsInTheNextStep
  intro s w i hw hd
  have hword := currentWord_withFetchWord s w
  have hdue : dueSegment (atSequencer (s.withFetchWord 64 w.toNat)) = some .s0 := by
    rw [dueSegment_counted (l := .s0) rfl rfl]; rfl
  obtain ⟨hrun, -, -⟩ := stepRunsTheLatchedCommand (s.withFetchWord 64 w.toNat) hw rfl
  exact ⟨(hrun i .s0 (hword.symm ▸ hd) hdue).trans (thenHost_none _), (atSequencer_currentWord _ _).trans hword,
    (dueSegment_some hdue).1⟩

/-- Settles O25. -/
theorem acceptanceLatchesTheCommand : Obligations.AcceptanceLatchesTheCommand := by
  unfold Obligations.AcceptanceLatchesTheCommand
  exact fun s v hb => hostPhase_write_cmdOp hb v

/-- Settles O30: the definition of `finish` is the statement. -/
theorem finishRecordsTheOutcome : Obligations.FinishRecordsTheOutcome := by
  unfold Obligations.FinishRecordsTheOutcome
  exact fun c s => rfl

/-- Settles O31: both have the one segment S0. -/
theorem nopAndIllegalOnlyFinish : Obligations.NopAndIllegalOnlyFinish := by
  unfold Obligations.NopAndIllegalOnlyFinish
  intro s hs
  refine ⟨?_, fun e he => ?_⟩
  · simp [exec, execNop, hs]
  · simp [runSegment, he, execIllegal, hs]

end Sys2Proof.Machine
end

section
/-!
The echo unit's arithmetic, its autonomous phases one by one, and its commands segment by segment, with O14, O16, O32,
O33 and O34 (41_echo.md R120 to R129).
-/

namespace Sys2Proof.Machine

/-- The raw count by the weights of TCNT and OVF; it fits in 24 bits, so the sum never wraps (41_echo.md R130). -/
theorem rawTicks_toNat (tc : Byte) (ovf : Half) : (rawTicks tc ovf).toNat = tc.toNat + 256 * ovf.toNat := by
  have htc := tc.isLt
  have hovf := ovf.isLt
  simp only [rawTicks, ovfShift, BitVec.toNat_add, BitVec.toNat_shiftLeft, BitVec.toNat_setWidth, Nat.shiftLeft_eq]
  omega

theorem halve_toNat (raw : Word) : (halve raw).toNat = raw.toNat / 2 := by
  simp [halve, Nat.shiftRight_eq_div_pow]

theorem distanceOf_toNat (d : Word) : (distanceOf d).toNat = d.toNat / 58 := by
  simp [distanceOf, distDivisor]

theorem halve_rawTicks (tc : Byte) (ovf : Half) :
    halve (rawTicks tc ovf) = BitVec.ofNat 32 ((tc.toNat + 256 * ovf.toNat) / 2) := by
  rw [← rawTicks_toNat, ← halve_toNat, BitVec.ofNat_toNat, BitVec.setWidth_eq]

theorem distanceOf_eq (d : Word) : distanceOf d = BitVec.ofNat 32 (d.toNat / 58) := by
  rw [← distanceOf_toNat, BitVec.ofNat_toNat, BitVec.setWidth_eq]

/-- Halving and dividing by 58 is dividing the raw count by 116 (41_echo.md R127). -/
theorem distanceOf_halve_rawTicks (tc : Byte) (ovf : Half) :
    distanceOf (halve (rawTicks tc ovf)) = BitVec.ofNat 32 ((tc.toNat + 256 * ovf.toNat) / 116) := by
  rw [distanceOf_eq, halve_toNat, rawTicks_toNat, Nat.div_div_eq_div_mul]

/-- A running timer counts one tick, modulo 2^24 (41_echo.md R120, R121). -/
theorem timerTick_rawTicks {s : State} (h : s.trun = true) :
    (rawTicks (timerTick s).tcnt (timerTick s).ovf).toNat = ((rawTicks s.tcnt s.ovf).toNat + 1) % 2 ^ 24 := by
  have htc := s.tcnt.isLt
  have hovf := s.ovf.isLt
  rw [rawTicks_toNat, rawTicks_toNat]
  unfold timerTick
  rw [if_pos h]
  split
  · rename_i hwrap
    rw [hwrap]
    simp only [BitVec.toNat_add, BitVec.toNat_ofNat]
    omega
  · rename_i hwrap
    have hlt : s.tcnt.toNat ≠ 255 := fun h255 => hwrap (BitVec.eq_of_toNat_eq h255)
    simp only [BitVec.toNat_add, BitVec.toNat_ofNat]
    omega

theorem timerTick_of_stopped {s : State} (h : s.trun = false) : timerTick s = s := by
  simp [timerTick, h]

/-- Settles O14: the wrap of TCNT carries into OVF in the same phase. -/
theorem timerCountsEveryTick : Obligations.TimerCountsEveryTick := by
  unfold Obligations.TimerCountsEveryTick
  refine fun s => ⟨timerTick_rawTicks, timerTick_of_stopped, ?_, rawTicks_toNat _ _⟩
  obtain ⟨_, _, frame⟩ := timerTick_frame s
  rw [frame]

/-- An unchanged level is no edge (41_echo.md R123). -/
theorem edgePhase_of_level {e : Bool} {s : State} (h : e = s.echoSync) : edgePhase e s = s := by
  simp [edgePhase, h]

/-- A change of level while PHASE = 0 is a rising edge (41_echo.md R123, R124). -/
theorem edgePhase_rising {e : Bool} {s : State} (h : e ≠ s.echoSync) (hp : s.phase = false) :
    edgePhase e s = { s with echoSync := e, tcnt := 0#8, ovf := 0#16, trun := true, phase := true } := by
  simp [edgePhase, h, hp, risingEdge]

/-- A change of level while PHASE = 1 is a falling edge (41_echo.md R123, R125). -/
theorem edgePhase_falling {e : Bool} {s : State} (h : e ≠ s.echoSync) (hp : s.phase = true) :
    edgePhase e s =
      { s with
        echoSync := e, trun := false, phase := false, echoNew := true, duration := halve (rawTicks s.tcnt s.ovf) } := by
  simp [edgePhase, h, hp, fallingEdge]

/-- Settles O16. -/
theorem edgeHandlers : Obligations.EdgeHandlers := by
  unfold Obligations.EdgeHandlers
  refine fun e s => ⟨edgePhase_of_level, edgePhase_rising, fun h hp => ?_⟩
  rw [edgePhase_falling h hp, halve_rawTicks]

/-- ECHO.TRIGGER's one segment (41_echo.md R126). -/
theorem exec_echoTrigger {s : State} (hs : s.seqStep = .seg .s0) :
    exec .echoTrigger s = .next (finish .ok { s with trigCnt := 20#8 }) := by
  simp [exec, execEchoTrigger, hs, trigCycles]

/-- S0 of ECHO.READ (41_echo.md R128). -/
theorem exec_echoRead_s0 {s : State} (hs : s.seqStep = .seg .s0) :
    exec .echoRead s = .next (measureStart .readS1 s) := by
  simp [exec, execEchoRead, hs]

/-- S1 of ECHO.READ (41_echo.md R128). -/
theorem exec_echoRead_readS1 {s : State} (hs : s.seqStep = .seg .readS1) :
    exec .echoRead s =
      .next (finish (if s.echoNew then .ok else .stale) { s with dist := measured s, result := measured s }) := by
  simp [exec, execEchoRead, hs, measureEnd]

/-- ECHO.CONVERT's one segment (41_echo.md R129). -/
theorem exec_echoConvert {s : State} (hs : s.seqStep = .seg .s0) (tc : Byte) (ovf : Half) :
    exec (.echoConvert tc ovf) s = .next (finish .ok { s with result := distanceOf (halve (rawTicks tc ovf)) }) := by
  simp [exec, execEchoConvert, hs]

/-- Settles O32. -/
theorem triggerCommandLoadsThePulse : Obligations.TriggerCommandLoadsThePulse := by
  unfold Obligations.TriggerCommandLoadsThePulse
  exact fun s => exec_echoTrigger

/-- Settles O33: the wait of M0 is `waiting` of its 40 020 cycles, and M1's distance is the quotient by 58. -/
theorem echoReadSegments : Obligations.EchoReadSegments := by
  unfold Obligations.EchoReadSegments
  refine fun s => ⟨exec_echoRead_s0, fun hs => ?_⟩
  rw [exec_echoRead_readS1 hs, measured, distanceOf_eq]

/-- Settles O34: the quotient by 116 of a count of at most 2^24 - 1. -/
theorem convertComputesTheDistance : Obligations.ConvertComputesTheDistance := by
  unfold Obligations.ConvertComputesTheDistance
  refine fun s tc ovf hs => ⟨?_, ?_⟩
  · rw [exec_echoConvert hs, distanceOf_halve_rawTicks]
  · have htc := tc.isLt
    have hovf := ovf.isLt
    omega

end Sys2Proof.Machine
end

section
/-!
The trigger pulse along a run, and O15 (41_echo.md R122).
-/

namespace Sys2Proof.Machine

/-- The trigger phase counts one down, and stays at 0 (41_echo.md R122). -/
theorem triggerTick_eq (s : State) : triggerTick s = { s with trigCnt := BitVec.ofNat 8 (s.trigCnt.toNat - 1) } := by
  unfold triggerTick
  split
  · congr 1
    bv_omega
  · rename_i h
    have same : BitVec.ofNat 8 (s.trigCnt.toNat - 1) = s.trigCnt := by bv_omega
    rw [same]

theorem triggerTick_trigCnt_toNat (s : State) : (triggerTick s).trigCnt.toNat = s.trigCnt.toNat - 1 := by
  have := s.trigCnt.isLt
  simp only [triggerTick_eq, BitVec.toNat_ofNat]
  omega

/-- `k` trigger phases count `k` down and touch nothing else. -/
theorem triggerTick_iterate (s : State) (k : Nat) :
    triggerTick^[k] s = { s with trigCnt := BitVec.ofNat 8 (s.trigCnt.toNat - k) } := by
  induction k with
  | zero => simp
  | succ k ih =>
    have := s.trigCnt.isLt
    rw [Function.iterate_succ_apply', ih, triggerTick_eq]
    congr 2
    simp only [BitVec.toNat_ofNat]
    omega

/-- TRIG_OUT, `k` counts after 20 (10_state.md R47). -/
theorem trigOut_of_count {s : State} {k : Nat} (h : s.trigCnt = BitVec.ofNat 8 (20 - k)) :
    s.trigOut = decide (k < 20) := by
  rw [State.trigOut, decide_eq_decide, h, ne_eq, BitVec.toNat_inj.symm, BitVec.toNat_ofNat, BitVec.toNat_ofNat]
  omega

/-- No segment that runs in the next `k` cycles loads the trigger count. -/
def NoLoadFor (k : Nat) (s : State) : Prop :=
  ∀ (j : Nat) (u : State) (i : Instr) (l : Seg), j < k → core.run j s = .next u →
    dueSegment (atSequencer u) = some l → decode (currentWord u) = .ok i → loadsTrigger i l = false

theorem NoLoadFor.now {s : State} {k : Nat} (h : NoLoadFor (k + 1) s) (i : Instr) (l : Seg)
    (hd : dueSegment (atSequencer s) = some l) (hi : decode (currentWord s) = .ok i) : loadsTrigger i l = false :=
  h 0 s i l (Nat.succ_pos k) rfl hd hi

theorem NoLoadFor.step {s t : State} {k : Nat} (h : NoLoadFor (k + 1) s) (ht : Machine.step s = .next t) :
    NoLoadFor k t :=
  fun j u i l hj hu => h (j + 1) u i l (Nat.succ_lt_succ hj) ((core_run_succ ht j).trans hu)

/-- Phases 2 to 5 count the trigger down once. -/
theorem atSequencer_trigCnt (s : State) : (atSequencer s).trigCnt = (triggerTick s).trigCnt := by
  simp [atSequencer, autonomous, triggerTick_eq]

/-- A cycle in which a segment loads the trigger count leaves it 20. -/
theorem trigCnt_of_load {s t : State} {i : Instr} {l : Seg} (hr : (nextInputs s).reset = false)
    (h : step s = .next t) (hd : dueSegment (atSequencer s) = some l) (hi : decode (currentWord s) = .ok i)
    (hload : loadsTrigger i l = true) : t.trigCnt = 20#8 := by
  obtain ⟨u, hu, rfl⟩ := step_phases hr h
  have hword : currentWord (atSequencer s) = currentWord s := atSequencer_currentWord _ s
  have hx : exec i (atSequencer s) = .next u := by
    simpa [sequencerPhase, hd, runSegment, hword, hi] using hu
  rw [hostPhase_trigCnt, exec_trigCnt hx (dueSegment_some hd).1, if_pos hload]

/-- A cycle with no reset and no load counts the trigger down once. -/
theorem trigCnt_of_no_load {s t : State} {k : Nat} (hr : (nextInputs s).reset = false) (h : step s = .next t)
    (hno : NoLoadFor (k + 1) s) : t.trigCnt.toNat = s.trigCnt.toNat - 1 := by
  obtain ⟨u, hu, rfl⟩ := step_phases hr h
  have hword : currentWord (atSequencer s) = currentWord s := atSequencer_currentWord _ s
  have same : u.trigCnt = (atSequencer s).trigCnt := by
    obtain ⟨l, hd, hrun⟩ | ⟨-, rfl⟩ := sequencerPhase_cases hu
    · obtain ⟨i, hi, hx⟩ | ⟨-, rfl⟩ := runSegment_cases hrun
      · rw [exec_trigCnt hx (dueSegment_some hd).1, hno.now i l hd (hword ▸ hi)]
        simp
      · simp
    · simp
  rw [hostPhase_trigCnt, same, atSequencer_trigCnt, triggerTick_trigCnt_toNat]

/-- A run with no reset and no load counts the trigger down once in each cycle. -/
theorem run_trigCnt (k : Nat) : ∀ s : State, s.cfg.wf = true → BlockInv s → noResetFor k s → NoLoadFor k s →
    ∃ t, core.run k s = .next t ∧ t.trigCnt.toNat = s.trigCnt.toNat - k := by
  induction k with
  | zero => exact fun s _ _ _ _ => ⟨s, rfl, rfl⟩
  | succ k ih =>
    intro s hw hinv hr hno
    obtain ⟨t, ht⟩ := noInputStopsTheBlock s hw hinv
    have hcnt := trigCnt_of_no_load (noResetFor_next hr) ht hno
    obtain ⟨u, hu, hcntU⟩ := ih t ((step_keeps ht).1 ▸ hw) (stepKeepsTheInvariant s t hinv ht)
      (noResetFor_step ht hr) (hno.step ht)
    exact ⟨u, (core_run_succ ht k).trans hu, by omega⟩

/-- Settles O15: the load by the segment that makes it, the pulse by induction on the cycles. -/
theorem triggerPulseLastsTwentyCycles : Obligations.TriggerPulseLastsTwentyCycles := by
  unfold Obligations.TriggerPulseLastsTwentyCycles
  refine ⟨fun s t i l => trigCnt_of_load, fun s k hw hinv h20 hr hno => ?_, fun s k h20 => ?_⟩
  · obtain ⟨t, ht, hcnt⟩ := run_trigCnt k s hw hinv hr hno
    have hcnt' : t.trigCnt = BitVec.ofNat 8 (20 - k) := by
      rw [h20] at hcnt
      bv_omega
    exact ⟨t, ht, trigOut_of_count hcnt', hcnt'⟩
  · have hcnt := triggerTick_iterate s k
    rw [h20] at hcnt
    exact ⟨trigOut_of_count (congrArg State.trigCnt hcnt), hcnt⟩

end Sys2Proof.Machine
end

section
/-!
The echo unit along a run: the level of the line before each cycle, the edges it makes, the length of a pulse, and O17
(41_echo.md R123, R125, R131).
-/

namespace Sys2Proof.Machine

/-- Phases 6 and 7 leave the timer and the edge registers as phases 2 to 5 leave them. -/
theorem echo_of_step {s t : State} (hr : (nextInputs s).reset = false) (h : step s = .next t) :
    t.tcnt = (atSequencer s).tcnt ∧ t.ovf = (atSequencer s).ovf ∧ t.trun = (atSequencer s).trun ∧
      t.phase = (atSequencer s).phase ∧ t.duration = (atSequencer s).duration ∧
      t.echoSync = (nextInputs s).echoIn := by
  obtain ⟨u, hu, rfl⟩ := step_phases hr h
  have same := sequencerPhase_same hu
  exact ⟨by simp [same.tcnt], by simp [same.ovf], by simp [same.trun], by simp [same.phase], by simp [same.duration],
    by simp [same.echoSync, atSequencer, autonomous]⟩

/-- A cycle inside a pulse counts one tick. -/
theorem step_inside_pulse {s t : State} (hinv : BlockInv s) (hp : s.phase = true) (hr : (nextInputs s).reset = false)
    (he : (nextInputs s).echoIn = true) (h : step s = .next t) :
    t.phase = true ∧ (rawTicks t.tcnt t.ovf).toNat = ((rawTicks s.tcnt s.ovf).toNat + 1) % 2 ^ 24 := by
  obtain ⟨⟨hsync, hrun⟩, -⟩ := hinv
  obtain ⟨htc, hovf, -, hph, -⟩ := echo_of_step hr h
  have level := edgePhase_of_level (e := (nextInputs s).echoIn) (s := triggerTick (timerTick (beginCycle s)))
    (by simp [he, ← hsync, hp])
  have tick := timerTick_rawTicks (s := beginCycle s) (by simp [hrun, hp])
  rw [htc, hovf, hph]
  simpa [atSequencer, autonomous, level, hp] using tick

/-- The cycle that ends a pulse counts one tick, stops the timer and stores half the count. -/
theorem step_ends_pulse {s t : State} (hinv : BlockInv s) (hp : s.phase = true) (hr : (nextInputs s).reset = false)
    (he : (nextInputs s).echoIn = false) (h : step s = .next t) :
    (rawTicks t.tcnt t.ovf).toNat = ((rawTicks s.tcnt s.ovf).toNat + 1) % 2 ^ 24 ∧
      t.duration = halve (rawTicks t.tcnt t.ovf) ∧ t.phase = false ∧ t.trun = false := by
  obtain ⟨⟨hsync, hrun⟩, -⟩ := hinv
  obtain ⟨htc, hovf, htrun, hph, hdur, -⟩ := echo_of_step hr h
  have falling := edgePhase_falling (e := (nextInputs s).echoIn) (s := triggerTick (timerTick (beginCycle s)))
    (by simp [he, ← hsync, hp]) (by simp [hp])
  have tick := timerTick_rawTicks (s := beginCycle s) (by simp [hrun, hp])
  rw [htc, hovf, hph, hdur, htrun]
  simpa [atSequencer, autonomous, falling] using tick

/-- A pulse that lasts `n` cycles more and falls in the next: the timer counts them all, modulo 2^24. -/
theorem run_pulse (n : Nat) : ∀ s : State, s.cfg.wf = true → BlockInv s → s.phase = true → noResetFor (n + 1) s →
    (∀ k, k < n → (s.inputsAt k).echoIn = true) → (s.inputsAt n).echoIn = false →
    ∃ t, core.run (n + 1) s = .next t ∧
      (rawTicks t.tcnt t.ovf).toNat = ((rawTicks s.tcnt s.ovf).toNat + (n + 1)) % 2 ^ 24 ∧
      t.duration = halve (rawTicks t.tcnt t.ovf) ∧ t.phase = false ∧ t.trun = false := by
  induction n with
  | zero =>
    intro s hw hinv hp hr _ hlow
    obtain ⟨t, ht⟩ := noInputStopsTheBlock s hw hinv
    exact ⟨t, core_run_succ ht 0,
      step_ends_pulse hinv hp (noResetFor_next hr) ((nextInputs_eq s).symm ▸ hlow) ht⟩
  | succ n ih =>
    intro s hw hinv hp hr hhigh hlow
    obtain ⟨t, ht⟩ := noInputStopsTheBlock s hw hinv
    obtain ⟨hpt, htick⟩ := step_inside_pulse hinv hp (noResetFor_next hr)
      ((nextInputs_eq s).symm ▸ hhigh 0 (Nat.succ_pos n)) ht
    obtain ⟨u, hu, hcount, hend⟩ := ih t ((step_keeps ht).1 ▸ hw) (stepKeepsTheInvariant s t hinv ht) hpt
      (noResetFor_step ht hr) (fun k hk => inputsAt_step ht k ▸ hhigh (k + 1) (Nat.succ_lt_succ hk))
      (inputsAt_step ht n ▸ hlow)
    exact ⟨u, (core_run_succ ht (n + 1)).trans hu, by omega, hend⟩

/-- Settles O17: the timer is cleared when the pulse begins, and DURATION is half of what it has counted at its end. -/
theorem echoDurationIsThePulseLength : Obligations.EchoDurationIsThePulseLength := by
  unfold Obligations.EchoDurationIsThePulseLength
  intro s d hw hinv hd hp htc hovf hr hhigh hlow
  obtain ⟨n, rfl⟩ := Nat.exists_eq_add_one.mpr hd
  obtain ⟨t, ht, hcount, hdur, hend⟩ := run_pulse n s hw hinv hp hr
    (fun k hk => hhigh k (Nat.succ_lt_succ hk)) hlow
  have hraw : (rawTicks t.tcnt t.ovf).toNat = (n + 1) % 2 ^ 24 := by
    rw [hcount, htc, hovf]
    simp [rawTicks_toNat]
  exact ⟨t, ht, hraw, by rw [hdur, halve_toNat, hraw], hend⟩

end Sys2Proof.Machine
end

section
/-!
ECHO.READ in time: its two segments in their cycles, the falling edges of its window, and O21 (41_echo.md R127, R128).
-/

namespace Sys2Proof.Machine

/-- The level of ECHO_IN that the edge phase compares with, `k` cycles after the next one (41_echo.md R123). -/
def levelBefore (s : State) : Nat → Bool
  | 0 => s.echoSync
  | k + 1 => (s.inputsAt k).echoIn

/-- ECHO_IN falls in the cycle `k` cycles after the next one. -/
def fallsAt (s : State) (k : Nat) : Prop :=
  levelBefore s k = true ∧ (s.inputsAt k).echoIn = false

/-- In a later cycle than the next the line falls from a high sample to a low one. -/
theorem fallsAt_succ (s : State) (k : Nat) :
    fallsAt s (k + 1) ↔ (s.inputsAt k).echoIn = true ∧ (s.inputsAt (k + 1)).echoIn = false := Iff.rfl

/-- The coming falls after a step are those that came one cycle later before it. -/
theorem fallsAt_step {s t : State} (hr : (nextInputs s).reset = false) (h : step s = .next t) (k : Nat) :
    fallsAt t k ↔ fallsAt s (k + 1) := by
  obtain ⟨-, -, -, -, -, hsync⟩ := echo_of_step hr h
  have level : levelBefore t k = levelBefore s (k + 1) := by
    cases k with
    | zero => exact hsync.trans (by rw [nextInputs_eq]; rfl)
    | succ k => exact congrArg Inputs.echoIn (inputsAt_step h k)
  rw [fallsAt, fallsAt, level, inputsAt_step h]

/-- Phases 2 to 5 set ECHO_NEW where the line falls. -/
theorem atSequencer_echoNew {s : State} (h : EdgesPaired s) :
    (atSequencer s).echoNew = true ↔ s.echoNew = true ∨ fallsAt s 0 := by
  have hedge := edgePhase_echoNew (nextInputs s).echoIn (s := triggerTick (timerTick (beginCycle s)))
    (by simpa [EdgesPaired] using h)
  have hnew : (atSequencer s).echoNew = (s.echoNew || (s.echoSync && !(nextInputs s).echoIn)) := by
    simpa [atSequencer, autonomous] using hedge
  simp [hnew, fallsAt, levelBefore, nextInputs_eq]

/-- A cycle with no reset keeps PHASE, ECHO_SYNC and TRUN together (41_echo.md R131). -/
theorem edgesPaired_step {s t : State} (hr : (nextInputs s).reset = false) (h : step s = .next t)
    (hp : EdgesPaired s) : EdgesPaired t := by
  obtain ⟨u, hu, rfl⟩ := step_phases hr h
  exact cycle_edgesPaired _ hu hp

/-- A cycle with no reset in which no segment is due leaves ECHO_NEW as phases 2 to 5 left it. -/
theorem echoNew_of_not_due {s t : State} (hr : (nextInputs s).reset = false) (h : step s = .next t)
    (hd : dueSegment (atSequencer s) = none) : t.echoNew = (atSequencer s).echoNew := by
  obtain ⟨u, hu, rfl⟩ := step_phases hr h
  obtain rfl : idleSequencer (atSequencer s) = u := by simpa [sequencerPhase_of_none hd] using hu
  simp

/-- A run that answers a state is a step that answers one, and then the rest. -/
theorem core_run_succ_next {s u : State} {n : Nat} (h : core.run (n + 1) s = .next u) :
    ∃ t, step s = .next t ∧ core.run n t = .next u := by
  cases ht : step s with
  | next t => exact ⟨t, rfl, (core_run_succ ht n).symm.trans h⟩
  | fault r =>
    have hc : core.step s = .fault r := ht
    simp [Host.Core.run, hc] at h
  | refused r =>
    have hc : core.step s = .refused r := ht
    simp [Host.Core.run, hc] at h

/-- A run and one step more. -/
theorem core_run_then_step (n : Nat) {s t u : State} (h : core.run n s = .next t) (hu : step t = .next u) :
    core.run (n + 1) s = .next u := by
  induction n generalizing s with
  | zero =>
    cases h
    exact core_run_succ hu 0
  | succ n ih =>
    obtain ⟨v, hv, hrun⟩ := core_run_succ_next h
    exact (core_run_succ hv (n + 1)).trans (ih hrun)

/-- The inputs coming after a run are those that came `n` later before it. -/
theorem inputsAt_run (n k : Nat) {s t : State} (h : core.run n s = .next t) : t.inputsAt k = s.inputsAt (k + n) := by
  induction n generalizing s with
  | zero => cases h; rfl
  | succ n ih =>
    obtain ⟨u, hu, hrun⟩ := core_run_succ_next h
    exact (ih hrun).trans (inputsAt_step hu (k + n))

/-- Phase 6 after `n` cycles with no segment sees ECHO_NEW set exactly when it was before, or the line fell in one of
them or in its own cycle. -/
theorem run_echoNew (n : Nat) : ∀ s u : State, EdgesPaired s → noResetFor n s →
    (∀ j, j < n → ∃ v, core.run j s = .next v ∧ dueSegment (atSequencer v) = none) → core.run n s = .next u →
    ((atSequencer u).echoNew = true ↔ s.echoNew = true ∨ ∃ k, k < n + 1 ∧ fallsAt s k) := by
  induction n with
  | zero =>
    intro s u hp _ _ hu
    cases hu
    simp [atSequencer_echoNew hp]
  | succ n ih =>
    intro s u hp hr hwait hu
    obtain ⟨t, ht, hrun⟩ := core_run_succ_next hu
    have hr0 := noResetFor_next hr
    have hd : dueSegment (atSequencer s) = none := by
      obtain ⟨v, hv, hd⟩ := hwait 0 (Nat.succ_pos n)
      cases hv
      exact hd
    have hwait' : ∀ j, j < n → ∃ v, core.run j t = .next v ∧ dueSegment (atSequencer v) = none := by
      intro j hj
      rw [← core_run_succ ht j]
      exact hwait (j + 1) (Nat.succ_lt_succ hj)
    rw [ih t u (edgesPaired_step hr0 ht hp) (noResetFor_step ht hr) hwait' hrun, echoNew_of_not_due hr0 ht hd,
      atSequencer_echoNew hp, Nat.exists_lt_succ_left (p := fallsAt s), or_assoc]
    simp only [fallsAt_step hr0 ht]

/-- The cycle of ECHO.READ's S0: the measurement starts, and the block waits for S1 (41_echo.md R127). -/
theorem step_echoRead_s0 {s : State} (hw : s.cfg.wf = true) (hb : s.busy = true) (hs : s.seqStep = .seg .s0)
    (h0 : s.seqWait = 0#32) (hd : decode (currentWord s) = .ok .echoRead) (hr : (nextInputs s).reset = false) :
    ∃ t, step s = .next t ∧ t.cfg = s.cfg ∧ t.busy = true ∧ t.seqStep = .seg .readS1 ∧ t.seqWait = 40019#32 ∧
      currentWord t = currentWord s ∧ t.echoNew = false := by
  have hdue : dueSegment (atSequencer s) = some .s0 := by simp [dueSegment_counted hs rfl, h0]
  obtain ⟨hrun, -, -⟩ := stepRunsTheLatchedCommand s hw hr
  have hx := hrun .echoRead .s0 hd hdue
  rw [exec_echoRead_s0 (dueSegment_some hdue).1] at hx
  have hbu : (measureStart .readS1 (atSequencer s)).busy = true := by simpa [atSequencer] using hb
  obtain ⟨_, _, _, _, frame⟩ := hostPhase_of_busy (nextInputs s).host hbu
  refine ⟨_, hx, ?_⟩
  rw [frame]
  exact ⟨by simp [atSequencer], hbu, rfl, rfl, atSequencer_currentWord _ s, rfl⟩

/-- The cycle of ECHO.READ's S1: DIST and RESULT take the distance, and the code says whether it is fresh
(41_echo.md R127, R128). -/
theorem step_echoRead_readS1 {s : State} (hw : s.cfg.wf = true) (hs : s.seqStep = .seg .readS1)
    (h0 : s.seqWait = 0#32) (hd : decode (currentWord s) = .ok .echoRead) (hr : (nextInputs s).reset = false) :
    ∃ t, step s = .next t ∧ t.result = t.dist ∧ t.dist.toNat = t.duration.toNat / 58 ∧ t.lastOpc = 0x02#8 ∧
      t.echoNew = (atSequencer s).echoNew ∧ t.code = (if t.echoNew then .ok else .stale) ∧
      ((∀ v, (nextInputs s).host ≠ .write 0x04#8 v) → t.busy = false ∧ t.seqStep = .idle) := by
  have hdue : dueSegment (atSequencer s) = some .readS1 := by simp [dueSegment_counted hs rfl, h0]
  obtain ⟨hrun, -, -⟩ := stepRunsTheLatchedCommand s hw hr
  have hx := hrun .echoRead .readS1 hd hdue
  rw [exec_echoRead_readS1 (dueSegment_some hdue).1] at hx
  have hopc : (atSequencer s).curOp.extractLsb' 24 8 = 0x02#8 := by
    obtain ⟨-, hop⟩ := (decode_eq_ok_iff _ _).mp hd
    obtain ⟨hopc, -⟩ := decodeOp_some hop
    simpa [currentWord, atSequencer, Instr.opc] using hopc.symm
  refine ⟨_, hx, by simp, by simp [measured, distanceOf_toNat], by simpa using hopc, by simp, by simp, fun hhost => ?_⟩
  obtain ⟨v, hv⟩ | ⟨_, _, frame⟩ := hostPhase_cases (nextInputs s).host (finish
    (if (atSequencer s).echoNew then .ok else .stale)
    { atSequencer s with dist := measured (atSequencer s), result := measured (atSequencer s) })
  · exact absurd hv (hhost v)
  · rw [frame]
    exact ⟨rfl, rfl⟩

/-- Settles O21: S0's cycle, the counted wait of 40 019 cycles, and S1's cycle, whose ECHO_NEW tells the falls since S0
cleared it. -/
theorem echoReadCompletes : Obligations.EchoReadCompletes := by
  unfold Obligations.EchoReadCompletes
  intro s hw hb hs h0 hd hr
  have hr0 := noResetFor_next hr
  obtain ⟨t, ht, hcfg, hbt, hst, hwt, hword, hnew⟩ := step_echoRead_s0 hw hb hs h0 hd hr0
  have hrt : noResetFor 40019 t := fun k hk => noResetFor_step ht hr k (Nat.lt_succ_of_lt hk)
  obtain ⟨hwait, (u : State), hu, same, hwu⟩ := run_counted_wait (l := .readS1) rfl 40019 t (hcfg ▸ hw) hbt hst
    (congrArg BitVec.toNat hwt) hrt
  have hinp : nextInputs u = s.inputsAt 40020 := by
    rw [nextInputs_eq, inputsAt_run 40019 0 hu, inputsAt_step ht]
  have hwf : u.cfg.wf = true := by rw [same.cfg, hcfg, hw]
  have hdu : decode (currentWord u) = .ok .echoRead := by rw [same.currentWord, hword, hd]
  obtain ⟨v, hv, hres, hdist, hopc, hfresh, hcode, hidle⟩ := step_echoRead_readS1 hwf (same.seqStep.trans hst) hwu hdu
    (hinp ▸ hr 40020 (Nat.lt_succ_self _))
  refine ⟨v, (core_run_succ ht 40020).trans (core_run_then_step 40019 hu hv), hres, hdist, hopc, hcode, fun hp => ?_,
    hinp ▸ hidle⟩
  have hfalls := run_echoNew 40019 t u (edgesPaired_step hr0 ht hp) hrt hwait hu
  simp [hcode, hfresh, hfalls, hnew, fallsAt_step hr0 ht, fallsAt_succ]

end Sys2Proof.Machine
end

section
/-!
Doubling in binary32: rounding is unchanged by a common factor and by a second rounding, doubling a significand that is
full keeps it, and O59 (00_scope.md R10; 42_heading.md R155, R158).
-/

namespace Sys2Proof.Machine

/-- A common factor changes no nearest integer. -/
theorem divNearestEven_mul_left {a : Nat} (ha : 0 < a) (n u : Nat) :
    F32.divNearestEven (a * n) (a * u) = F32.divNearestEven n u := by
  have hlt : a * u < 2 * (a * (n % u)) ↔ u < 2 * (n % u) := by
    rw [Nat.mul_left_comm, Nat.mul_lt_mul_left ha]
  have heq : 2 * (a * (n % u)) = a * u ↔ 2 * (n % u) = u := by
    rw [Nat.mul_left_comm, Nat.mul_right_inj ha.ne']
  simp only [F32.divNearestEven, Nat.mul_div_mul_left _ _ ha, Nat.mul_mod_mul_left, hlt, heq]

/-- A common factor changes no rounding. -/
theorem round_mul_left (neg : Bool) {a : Nat} (ha : 0 < a) (n d : Nat) :
    F32.round neg (a * n) (a * d) = F32.round neg n d := by
  simp only [F32.round, Nat.mul_div_mul_left _ _ ha, Nat.mul_assoc a d, divNearestEven_mul_left ha]

/-- A rounded magnitude rounds to itself, or overflows again. -/
theorem round_rounded (neg : Bool) (n : Nat) {d : Nat} (hd : 0 < d) :
    F32.round neg (roundSignificand n d * 2 ^ roundExponent n d) 1 = F32.round neg n d := by
  rw [round_eq neg n d]
  split
  · exact round_of_representable neg
      (representable_of_lt_limit (roundSignificand_le n hd) (roundSignificand_full n hd) ‹_›)
  · rename_i h
    rw [limit_eq] at h
    exact round_overflow neg Nat.one_pos (by omega)

/-- From 2^23 on, one bit more stands beyond a 24-bit significand than in the half. -/
theorem excessBits_of_half {q : Nat} (h : 2 ^ 23 ≤ q / 2) : F32.excessBits q = F32.excessBits (q / 2) + 1 := by
  have hlt := lt_pow_excessBits (q / 2)
  have hle : 2 ^ (23 + F32.excessBits (q / 2)) ≤ q / 2 := by
    obtain h0 | hle := pow_excessBits_le (q / 2)
    · simpa [h0] using h
    · exact hle
  refine excessBits_eq ?_ (.inr ?_) <;> rw [← Nat.add_assoc, pow_succ] <;> omega

/-- Half a unit below an even integer rounds up to it. -/
theorem divNearestEven_eq_of_even {n u c : Nat} (hu : 0 < u) (hc : c % 2 = 0) (hlo : 2 * (c * u) ≤ 2 * n + u)
    (hhi : n ≤ c * u) : F32.divNearestEven n u = c := by
  obtain ⟨-, hnear, htie⟩ := divNearestEven_spec n hu
  refine le_antisymm (divNearestEven_le hu hhi) (Nat.le_of_not_lt fun hlt => ?_)
  generalize F32.divNearestEven n u = m at *
  obtain ⟨i, rfl⟩ := Nat.exists_eq_add_of_lt hlt
  rw [show (m + i + 1) * u = m * u + i * u + u by ring] at hlo
  obtain rfl | hi := Nat.eq_zero_or_pos i
  · have := htie (.inr (by omega))
    omega
  · have := Nat.le_mul_of_pos_left u hi
    omega

/-- The double of an exact magnitude rounds to the double of its rounded one, from 2^-126 less a quarter of the least
subnormal on, and at zero (42_heading.md R158). -/
theorem rounded_double {n d : Nat} (hd : 0 < d) (h : n = 0 ∨ (2 ^ 25 - 1) * d ≤ 4 * n) :
    roundSignificand (2 * n) d * 2 ^ roundExponent (2 * n) d = 2 * (roundSignificand n d * 2 ^ roundExponent n d) := by
  obtain rfl | h := h
  · simp [roundSignificand, F32.divNearestEven]
  obtain hnormal | hbelow := le_or_gt (2 ^ 23) (n / d)
  · -- one exponent more, the same significand
    have hhalf : 2 * n / d / 2 = n / d := by
      rw [Nat.div_div_eq_div_mul, Nat.mul_comm d, Nat.mul_div_mul_left _ _ (by decide)]
    have hexp : roundExponent (2 * n) d = roundExponent n d + 1 := by
      rw [roundExponent, excessBits_of_half (hhalf ▸ hnormal), hhalf, roundExponent]
    have hsig : roundSignificand (2 * n) d = roundSignificand n d := by
      rw [roundSignificand, hexp, pow_succ', Nat.mul_left_comm, divNearestEven_mul_left (by decide)]
      rfl
    rw [hsig, hexp, pow_succ', Nat.mul_left_comm]
  · -- the last quarter of a unit below 2^23 of them: both round up, at the least exponent
    have hlt : n < 2 ^ 23 * d := (Nat.div_lt_iff_lt_mul hd).mp hbelow
    have hexp : roundExponent n d = 0 := excessBits_eq (by omega) (.inl rfl)
    have hexp2 : roundExponent (2 * n) d = 0 :=
      excessBits_eq ((Nat.div_lt_iff_lt_mul hd).mpr (by omega)) (.inl rfl)
    have hsig : roundSignificand n d = 2 ^ 23 := by
      rw [roundSignificand, hexp, pow_zero, Nat.mul_one]
      exact divNearestEven_eq_of_even hd (by decide) (by omega) hlt.le
    have hsig2 : roundSignificand (2 * n) d = 2 ^ 24 := by
      rw [roundSignificand, hexp2, pow_zero, Nat.mul_one]
      exact divNearestEven_eq_of_even hd (by decide) (by omega) (by omega)
    rw [hsig, hsig2, hexp, hexp2]
    rfl

/-- The value of a pattern is representable. -/
theorem representable_of_ofBits {b : Word} {neg : Bool} {m : Nat} (h : F32.ofBits b = .fin neg m) :
    representable m := by
  obtain ⟨s, e, f, he, hf, rfl⟩ := exists_packed b
  rw [ofBits_packed s he hf] at h
  split at h
  · split at h <;> cases h
  · split at h <;> cases h
    · exact ⟨m, 0, by omega, by decide, by simp⟩
    · exact ⟨f + 2 ^ 23, e - 1, by omega, by omega, rfl⟩

/-- Doubling is exact below 2^128. -/
theorem representable_double {m : Nat} (h : representable m) (hlim : 2 * m < F32.limit) : representable (2 * m) := by
  obtain ⟨c, k, hc, hk, rfl, -⟩ := representable_normal h
  obtain hsmall | hfull := Nat.lt_or_ge c (2 ^ 23)
  · exact ⟨2 * c, k, by omega, hk, by ring⟩
  · rw [show 2 * (c * 2 ^ k) = c * 2 ^ (k + 1) by ring] at hlim ⊢
    exact representable_of_lt_limit hc.le (.inr hfull) hlim

/-- Twice a number is its exact double rounded once. -/
theorem two_mul_fin (neg : Bool) (m : Nat) : (F32.ofInt 2).mul (.fin neg m) = F32.round neg (2 * m) 1 := by
  have two : F32.ofInt 2 = .fin false (2 * 2 ^ 149) := ofInt_exact (i := 2) (by decide)
  rw [two, mul_fin, Bool.false_bne, Nat.mul_comm 2, Nat.mul_assoc]
  exact round_mul_left neg (Nat.two_pow_pos 149) (2 * m) 1

/-- Settles O59: 2 dt is exact, the double of the exact product rounds to the double of the increment, and rounding that
again changes nothing. -/
theorem doubledStepDoublesTheIncrement : Obligations.DoubledStepDoublesTheIncrement := by
  unfold Obligations.DoubledStepDoublesTheIncrement
  intro rate dt r u w m k p hrate hdt _ hlim hprod hinc
  have hd : 0 < 2 ^ 149 := by positivity
  have hdouble : (F32.ofInt 2).mul (F32.ofBits dt) = .fin u (2 * k) := by
    rw [hdt, two_mul_fin, round_of_representable u (representable_double (representable_of_ofBits hdt) hlim)]
  have hn : m * k = 0 ∨ (2 ^ 25 - 1) * 2 ^ 149 ≤ 4 * (m * k) := hprod.imp_left fun h => by rw [h, Nat.zero_mul]
  rw [hdouble, hinc, two_mul_fin]
  rw [hrate, hdt, mul_fin, round_eq] at hinc
  split at hinc <;> cases hinc
  rw [← rounded_double hd hn, round_rounded _ _ hd, hrate, mul_fin, Nat.mul_left_comm]

end Sys2Proof.Machine
end

section
/-!
The heading integrator's commands segment by segment, with O35 to O44 (42_heading.md R150 to R156).
-/

namespace Sys2Proof.Machine

/-- The range test refuses exactly what is not one of the four ranges (42_heading.md R152). -/
theorem rangeOf_eq_none_iff (range : Word) : rangeOf range = none ↔ range.toNat ∉ [250, 500, 1000, 2000] := by
  unfold rangeOf
  split
  case h_5 => simp_all [BitVec.toNat_eq]
  all_goals simp

theorem exists_rangeOf {range : Word} (h : range.toNat ∈ [250, 500, 1000, 2000]) : ∃ r, rangeOf range = some r :=
  Option.ne_none_iff_exists'.mp fun hn => (rangeOf_eq_none_iff range).mp hn h

/-- Each range has its own register value (00_scope.md R7). -/
theorem rangeOf_of_mem_rangeWrites {v : RangeValues} {range : Word} {val : Byte} (h : (range, val) ∈ rangeWrites v) :
    ∃ r, rangeOf range = some r ∧ rangeVal v r = val := by
  simp only [rangeWrites, List.mem_cons, Prod.mk.injEq, List.not_mem_nil, or_false] at h
  obtain ⟨rfl, rfl⟩ | ⟨rfl, rfl⟩ | ⟨rfl, rfl⟩ | ⟨rfl, rfl⟩ := h
  · exact ⟨.dps250, rfl, rfl⟩
  · exact ⟨.dps500, rfl, rfl⟩
  · exact ⟨.dps1000, rfl, rfl⟩
  · exact ⟨.dps2000, rfl, rfl⟩

/-! GYRO.INIT's segments (42_heading.md R152). -/

section
variable {s : State} {range : Word} {r : GyroRange} {rsp : GyroResponse}

/-- The write numbered `n` is the one that `initRequested` names. -/
theorem initNext_eq (r : GyroRange) (n : Half) (s : State) :
    initNext r { s with seqI := n } = initRequested (rangeVal s.cfg.gyroRangeVal r) n s := by
  unfold initNext initRequested
  cases s.cfg.gyroPreInit[n.toNat]? <;> rfl

theorem exec_gyroInit_refused (hs : s.seqStep = .seg .s0) (hr : rangeOf range = none) :
    exec (.gyroInit range) s = .next (finish .invalidRange { s with cfgFatal := true }) := by
  simp [exec, execGyroInit, hs, hr]

theorem exec_gyroInit_s0 (hs : s.seqStep = .seg .s0) (hr : rangeOf range = some r) :
    exec (.gyroInit range) s = .next (initRequested (rangeVal s.cfg.gyroRangeVal r) 0#16 s) := by
  simp [exec, execGyroInit, hs, hr, ← initNext_eq]

theorem exec_gyroInit_initPW (hs : s.seqStep = .seg .initPW) (hr : rangeOf range = some r)
    (hrsp : s.busRsp = some rsp) :
    exec (.gyroInit range) s =
      .next (if rsp.status ≠ 0#8 then initFail s
        else initRequested (rangeVal s.cfg.gyroRangeVal r) (s.seqI + 1#16) s) := by
  simp [exec, execGyroInit, hs, hr, hrsp, ← initNext_eq]

theorem exec_gyroInit_initRW (hs : s.seqStep = .seg .initRW) (hr : rangeOf range = some r)
    (hrsp : s.busRsp = some rsp) :
    exec (.gyroInit range) s =
      .next (if rsp.status ≠ 0#8 then initFail s
        else finish .ok { s with gyroSens := sens r, gyroRange := range, initOk := true }) := by
  simp [exec, execGyroInit, hs, hr, hrsp]

end

/-- Settles O35. -/
theorem initRefusesOtherRanges : Obligations.InitRefusesOtherRanges := by
  unfold Obligations.InitRefusesOtherRanges
  exact fun s range hs hrange => exec_gyroInit_refused hs ((rangeOf_eq_none_iff range).mpr hrange)

/-- Settles O36. -/
theorem initIssuesItsWritesInOrder : Obligations.InitIssuesItsWritesInOrder := by
  unfold Obligations.InitIssuesItsWritesInOrder
  intro s range val rsp hmem
  obtain ⟨r, hr, rfl⟩ := rangeOf_of_mem_rangeWrites hmem
  refine ⟨fun hs => exec_gyroInit_s0 hs hr, fun hs hrsp hok => ?_⟩
  rw [exec_gyroInit_initPW hs hr hrsp, if_neg (not_not.mpr hok)]

/-- Settles O37. -/
theorem initCompletes : Obligations.InitCompletes := by
  unfold Obligations.InitCompletes
  intro s rsp hs hrsp hok
  have completes {range : Word} {r : GyroRange} (hr : rangeOf range = some r) :
      exec (.gyroInit range) s =
        .next (finish .ok { s with gyroSens := sens r, gyroRange := range, initOk := true }) := by
    rw [exec_gyroInit_initRW hs hr hrsp, if_neg (not_not.mpr hok)]
  exact ⟨completes (r := .dps250) rfl, completes (r := .dps500) rfl, completes (r := .dps1000) rfl,
    completes (r := .dps2000) rfl⟩

/-- Settles O38: the pre-initialisation writes and the range write fail alike. -/
theorem initFailsOnABusError : Obligations.InitFailsOnABusError := by
  unfold Obligations.InitFailsOnABusError
  intro s range rsp hrange hs hrsp hfail
  obtain ⟨r, hr⟩ := exists_rangeOf hrange
  obtain hs | hs := hs
  · rw [exec_gyroInit_initPW hs hr hrsp, if_pos hfail, initFail]
  · rw [exec_gyroInit_initRW hs hr hrsp, if_pos hfail, initFail]

/-- The bytes of an axis as its signed rate (42_heading.md R150). -/
theorem pairInt_eq_rateOf (cfg : Config) (first second : Byte) :
    pairInt cfg.gyroBigEndian first second = rateOf cfg first second :=
  (apply_ite BitVec.toInt ..).symm

/-! GYRO.CALIBRATE's segments (42_heading.md R154). -/

section
variable {s : State} {rsp : GyroResponse}

theorem exec_gyroCalibrate_s0 (hs : s.seqStep = .seg .s0) :
    exec .gyroCalibrate s =
      .next (if s.initOk = false then finish .notInit s
        else if s.calDone = true then finish .alreadyCal s
        else readRequested .calC1 { s with seqI := 0#16, calSumX := 0#32, calSumY := 0#32, calSumZ := 0#32 }) := by
  simp [exec, execGyroCalibrate, hs, busRead, readRequested, rateBytes]

theorem exec_gyroCalibrate_calC1 (hs : s.seqStep = .seg .calC1) (hrsp : s.busRsp = some rsp) :
    exec .gyroCalibrate s = .next (calSample rsp.data s) := by
  simp [exec, execGyroCalibrate, hs, hrsp]

theorem exec_gyroCalibrate_calC2 (hs : s.seqStep = .seg .calC2) :
    exec .gyroCalibrate s =
      .next (if s.seqI.toNat < s.cfg.calN then readRequested .calC1 s else calFinish s) := by
  simp [exec, execGyroCalibrate, hs, busRead, readRequested, rateBytes]

end

/-- Settles O39. -/
theorem calibrateChecksAndStarts : Obligations.CalibrateChecksAndStarts := by
  unfold Obligations.CalibrateChecksAndStarts
  intro s hs
  rw [exec_gyroCalibrate_s0 hs]
  refine ⟨fun hi => ?_, fun hi hc => ?_, fun hi hc => ?_⟩
  · rw [if_pos hi]
  · rw [if_neg (by simp [hi]), if_pos hc]
  · rw [if_neg (by simp [hi]), if_neg (by simp [hc])]

/-- Settles O40. -/
theorem calibrateSumsItsSamples : Obligations.CalibrateSumsItsSamples := by
  unfold Obligations.CalibrateSumsItsSamples
  refine fun s rsp => ⟨fun hs hrsp => ?_, fun hs hmore => ?_⟩
  · simp only [exec_gyroCalibrate_calC1 hs hrsp, ← pairInt_eq_rateOf]
    rfl
  · rw [exec_gyroCalibrate_calC2 hs, if_pos hmore]

/-- Settles O41. -/
theorem calibrateCompletes : Obligations.CalibrateCompletes := by
  unfold Obligations.CalibrateCompletes
  intro s hs hlast
  rw [exec_gyroCalibrate_calC2 hs, if_neg (Nat.not_lt.mpr hlast)]
  rfl

/-! The segments of GYRO.SAMPLE and GYRO.RESET (42_heading.md R155, R156). -/

theorem exec_gyroSample_s0 {s : State} (dt : Word) (hs : s.seqStep = .seg .s0) :
    exec (.gyroSample dt) s = .next (if s.initOk = false then finish .notInit s else readRequested .sampleS1 s) := by
  simp [exec, execGyroSample, hs, busRead, readRequested, rateBytes]

theorem exec_gyroSample_sampleS1 {s : State} {rsp : GyroResponse} (dt : Word) (hs : s.seqStep = .seg .sampleS1)
    (hrsp : s.busRsp = some rsp) : exec (.gyroSample dt) s = .next (sampleIntegrate dt rsp.data s) := by
  simp [exec, execGyroSample, hs, hrsp]

/-- Settles O42. -/
theorem sampleChecksAndReads : Obligations.SampleChecksAndReads := by
  unfold Obligations.SampleChecksAndReads
  intro s dt hs
  rw [exec_gyroSample_s0 dt hs]
  refine ⟨fun hi => ?_, fun hi => ?_⟩
  · rw [if_pos hi]
  · rw [if_neg (by simp [hi])]

/-- Settles O43. -/
theorem sampleIntegratesTheRates : Obligations.SampleIntegratesTheRates := by
  unfold Obligations.SampleIntegratesTheRates
  intro s dt rsp hs hrsp
  simp only [exec_gyroSample_sampleS1 dt hs hrsp, ← pairInt_eq_rateOf]
  rfl

/-- Settles O44. -/
theorem gyroResetZeroesTheAccumulators : Obligations.GyroResetZeroesTheAccumulators := by
  unfold Obligations.GyroResetZeroesTheAccumulators
  intro s hs
  simp [exec, execGyroReset, hs]

end Sys2Proof.Machine
end

section
/-!
Who writes the heading integrator's accumulators and offsets, said once for every command, and O45 (42_heading.md R154
to R157).
-/

namespace Sys2Proof.Machine

/-- The heading integrator's registers: HEAD_* and GYRO_OFF_* (10_state.md R35, R36). -/
structure HeadingRegs where
  heads   : Word × Word × Word
  offsets : Word × Word × Word

/-- The heading integrator's registers as a state holds them. -/
def State.heading (s : State) : HeadingRegs :=
  ⟨(s.headRoll, s.headPitch, s.headYaw), (s.gyroOffX, s.gyroOffY, s.gyroOffZ)⟩

theorem servoWrite_heading (p : Half) (s : State) : (servoWrite p s).heading = s.heading := by
  unfold servoWrite; split <;> rfl

theorem steerThen_heading (p : Half) (l : Seg) (s : State) : (steerThen p l s).heading = s.heading :=
  servoWrite_heading p s

theorem gapRecord_heading (p : Half) (k : BitVec 3) (d : Word) (s : State) :
    (gapRecord p k d s).heading = s.heading := by
  unfold gapRecord; split <;> rfl

theorem initNext_heading (r : GyroRange) (s : State) : (initNext r s).heading = s.heading := by
  unfold initNext; split <;> rfl

/-! The commands that write none of these registers. -/

theorem execGyroInit_heading {range : Word} {s t : State} (h : execGyroInit range s = .next t) :
    t.heading = s.heading := by
  unfold execGyroInit at h
  split at h
  · cases h; rfl
  · cases h; exact initNext_heading ..
  · split at h <;> cases h
    · rfl
    · split
      · rfl
      · exact initNext_heading ..
  · split at h <;> cases h
    · rfl
    · split <;> rfl
  · cases h

theorem execServoSetHeading_heading {yaw : Word} {s t : State} (h : execServoSetHeading yaw s = .next t) :
    t.heading = s.heading := by
  unfold execServoSetHeading at h
  split at h
  · split at h
    · split at h <;> cases h
      exact servoWrite_heading ..
    · cases h; rfl
  · cases h

theorem execServoSetPulse_heading {pulse : Word} {s t : State} (h : execServoSetPulse pulse s = .next t) :
    t.heading = s.heading := by
  unfold execServoSetPulse at h
  split at h <;> cases h
  split
  · exact servoWrite_heading ..
  · rfl

theorem gapRight_heading (s : State) : (gapRight s).heading = s.heading := by
  unfold gapRight
  split <;> exact steerThen_heading ..

theorem gapLeft_heading {s t : State} (h : gapLeft s = .next t) : t.heading = s.heading := by
  unfold gapLeft at h
  split at h
  · cases h; exact steerThen_heading ..
  · split at h <;> cases h
    exact steerThen_heading ..

theorem gapSweep_heading {s t : State} (h : gapSweep s = .next t) : t.heading = s.heading := by
  have record (p : Half) (k : BitVec 3) (d : Word) : (gapRecord p k d (gapMeasure s)).heading = s.heading :=
    gapRecord_heading ..
  unfold gapSweep at h
  dsimp only at h
  split at h
  · cases h
  · split at h
    · split at h <;> cases h
      exact (steerThen_heading ..).trans (record ..)
    · cases h
      exact (steerThen_heading ..).trans (record ..)

theorem execGapFind_heading {s t : State} (h : execGapFind s = .next t) : t.heading = s.heading := by
  unfold execGapFind at h
  split at h
  · cases h; exact steerThen_heading ..
  · cases h; rfl
  · cases h; exact gapRight_heading s
  · cases h; rfl
  · exact gapLeft_heading h
  · cases h; rfl
  · exact gapSweep_heading h
  · cases h; rfl
  · cases h

/-! The commands that write some of them. -/

/-- GYRO.CALIBRATE writes the offsets alone, and those only at the end of C2, with CAL_DONE (42_heading.md R154). -/
theorem execGyroCalibrate_heading {s t : State} (h : execGyroCalibrate s = .next t) :
    t.heading = s.heading ∨ (t.heading.heads = s.heading.heads ∧ s.seqStep = .seg .calC2 ∧ t.calDone = true) := by
  unfold execGyroCalibrate at h
  split at h
  · cases h
    refine .inl ?_
    split
    · rfl
    · split <;> rfl
  · split at h <;> cases h <;> exact .inl rfl
  · cases h
    split
    · exact .inl rfl
    · exact .inr ⟨rfl, ‹_›, rfl⟩
  · cases h

/-- GYRO.SAMPLE writes the accumulators alone (42_heading.md R155). -/
theorem execGyroSample_offsets {dt : Word} {s t : State} (h : execGyroSample dt s = .next t) :
    t.heading.offsets = s.heading.offsets := by
  unfold execGyroSample at h
  split at h
  · cases h; split <;> rfl
  · split at h <;> cases h <;> rfl
  · cases h

/-- GYRO.RESET writes the accumulators alone (42_heading.md R156). -/
theorem execGyroReset_offsets {s t : State} (h : execGyroReset s = .next t) :
    t.heading.offsets = s.heading.offsets := by
  unfold execGyroReset at h
  split at h <;> cases h
  rfl

/-- What a segment can do to the heading integrator's registers, by what the word that it runs for decodes to. -/
inductive HeadingMoves (w : Except Illegal Instr) (s t : State) : Prop where
  | held (h : t.heading = s.heading)
  | integrated (hw : w = .ok .gyroReset ∨ ∃ dt, w = .ok (.gyroSample dt)) (h : t.heading.offsets = s.heading.offsets)
  | calibrated (hw : w = .ok .gyroCalibrate) (h : t.heading.heads = s.heading.heads) (hs : s.seqStep = .seg .calC2)
      (ht : t.calDone = true)

/-- `HeadingMoves` reads the heading integrator's registers, SEQ_STEP and CAL_DONE alone. -/
theorem HeadingMoves.congr {w : Except Illegal Instr} {s t s' t' : State} (m : HeadingMoves w s t)
    (hs : s.heading = s'.heading) (hseq : s.seqStep = s'.seqStep) (ht : t'.heading = t.heading)
    (hcal : t'.calDone = t.calDone) : HeadingMoves w s' t' := by
  cases m with
  | held h => exact .held (ht.trans (h.trans hs))
  | integrated hw h => exact .integrated hw (by rw [ht, h, hs])
  | calibrated hw h hc2 hdone => exact .calibrated hw (by rw [ht, h, hs]) (hseq ▸ hc2) (hcal.trans hdone)

/-- Every segment of every command moves the heading integrator's registers so. -/
theorem exec_heading {i : Instr} {s t : State} (h : exec i s = .next t) : HeadingMoves (.ok i) s t := by
  cases i with
  | nop => simp only [exec, execNop] at h; split at h <;> cases h; exact .held rfl
  | echoTrigger => simp only [exec, execEchoTrigger] at h; split at h <;> cases h; exact .held rfl
  | echoRead => simp only [exec, execEchoRead] at h; split at h <;> cases h <;> exact .held rfl
  | echoConvert tc ovf => simp only [exec, execEchoConvert] at h; split at h <;> cases h; exact .held rfl
  | gyroInit r => exact .held (execGyroInit_heading h)
  | gyroCalibrate =>
    obtain hheld | ⟨hheads, hs, hdone⟩ := execGyroCalibrate_heading h
    · exact .held hheld
    · exact .calibrated rfl hheads hs hdone
  | gyroSample dt => exact .integrated (.inr ⟨dt, rfl⟩) (execGyroSample_offsets h)
  | gyroReset => exact .integrated (.inl rfl) (execGyroReset_offsets h)
  | servoSetHeading y => exact .held (execServoSetHeading_heading h)
  | servoSetPulse p => exact .held (execServoSetPulse_heading h)
  | servoAngleToPulse a =>
    simp only [exec, execServoAngleToPulse] at h
    split at h
    · split at h <;> cases h <;> exact .held rfl
    · cases h
  | gapFind => exact .held (execGapFind_heading h)
  | gapPulseToAngle p =>
    simp only [exec, execGapPulseToAngle] at h
    split at h
    · split at h <;> cases h <;> exact .held rfl
    · cases h

/-- The segment of the latched word moves them so; ILLEGAL holds them. -/
theorem runSegment_heading {s t : State} (h : runSegment s = .next t) : HeadingMoves (decode (currentWord s)) s t := by
  obtain ⟨i, hi, hx⟩ | ⟨-, rfl⟩ := runSegment_cases h
  · exact hi ▸ exec_heading hx
  · exact .held rfl

/-- A cycle with no reset moves them as its segment does: the other phases hold them. -/
theorem step_heading {s t : State} (hr : (nextInputs s).reset = false) (h : step s = .next t) :
    HeadingMoves (decode (currentWord s)) s t := by
  obtain ⟨u, hu, rfl⟩ := step_phases hr h
  have moves : HeadingMoves (decode (currentWord (atSequencer s))) (atSequencer s) u := by
    obtain ⟨l, -, hrun⟩ | ⟨-, rfl⟩ := sequencerPhase_cases hu
    · exact runSegment_heading hrun
    · exact .held (by simp [State.heading])
  rw [atSequencer, atSequencer_currentWord] at moves
  exact moves.congr (by simp [State.heading]) (by simp) (by simp [State.heading]) (by simp)

/-- Settles O45: a step moves the registers as the latched command's segment does, and C2 finds CAL_DONE = 0 by the
block's invariant. -/
theorem headingRegistersHaveTheirWriters : Obligations.HeadingRegistersHaveTheirWriters := by
  unfold Obligations.HeadingRegistersHaveTheirWriters
  intro s t ⟨_, _, _, _, _, hfits⟩ hr h
  change (t.heading.heads ≠ s.heading.heads → _) ∧ (t.heading.offsets ≠ s.heading.offsets → _)
  cases step_heading hr h with
  | held hheld =>
    exact ⟨fun hne => absurd (congrArg HeadingRegs.heads hheld) hne,
      fun hne => absurd (congrArg HeadingRegs.offsets hheld) hne⟩
  | integrated hw hoff => exact ⟨fun _ => hw, fun hne => absurd hoff hne⟩
  | calibrated hw hheads hs hdone =>
    have hfirst : s.initOk = true ∧ s.calDone = false := by simpa [HeadingFits, hs] using hfits
    exact ⟨fun hne => absurd hheads hne, fun _ => ⟨hw, hfirst.2, hdone⟩⟩

end Sys2Proof.Machine
end

section
/-!
The steering mapper's commands: what the checked PWM write does in range, SERVO.SET_HEADING in and out of range, the
interpolation of SERVO.ANGLE_TO_PULSE, and O46 to O50 (43_servo.md R180 to R184).
-/

namespace Sys2Proof.Machine

section
variable {s : State} {yaw pulse angle : Word}

/-- A pulse of the physical range is written, strobed and counted (43_servo.md R180). -/
theorem servoWrite_of_inRange {p : Half} (h : s.cfg.inRange p = true) : servoWrite p s = pwmWritten p s := if_pos h

theorem exec_servoSetHeading_outOfRange (hs : s.seqStep = .seg .s0) (hr : ¬ headingInRange (F32.ofBits yaw) = true) :
    exec (.servoSetHeading yaw) s = .next (finish .headingRange s) := by
  simp [exec, execServoSetHeading, hs, hr]

/-- The write of a table pulse is never refused (`wf_table`). -/
theorem exec_servoSetHeading_inRange {p : Half} (hw : s.cfg.wf = true) (hs : s.seqStep = .seg .s0)
    (hr : headingInRange (F32.ofBits yaw) = true) (hp : headingPulse s.cfg (F32.ofBits yaw) = some p) :
    exec (.servoSetHeading yaw) s = .next (finish .ok { pwmWritten p s with result := p.setWidth 32 }) := by
  have hin : s.cfg.inRange p = true := by
    obtain ⟨neg, mag, hy, hm⟩ := (headingInRange_iff _).mp hr
    rw [hy, (headingPulse_fin s.cfg neg hm).2] at hp
    exact Config.wf_servoTable hw hp
  simp [exec, execServoSetHeading, hs, hr, hp, servoWrite_of_inRange hin]

/-- The comparison of the whole operand with the ends of the physical range, on numbers (43_servo.md R182). -/
theorem pulse_between_iff (cfg : Config) (pulse : Word) :
    (cfg.pulseMin.setWidth 32 ≤ pulse ∧ pulse ≤ cfg.pulseMax.setWidth 32) ↔
      cfg.pulseMin.toNat ≤ pulse.toNat ∧ pulse.toNat ≤ cfg.pulseMax.toNat := by
  simp only [BitVec.le_def, BitVec.toNat_setWidth_of_le (show 16 ≤ 32 by decide)]

theorem exec_servoSetPulse_s0 (hs : s.seqStep = .seg .s0) :
    exec (.servoSetPulse pulse) s =
      .next (if s.cfg.pulseMin.toNat ≤ pulse.toNat ∧ pulse.toNat ≤ s.cfg.pulseMax.toNat
        then finish .ok (servoWrite (pulse.setWidth 16) s)
        else finish .pulseRange s) := by
  simp only [exec, execServoSetPulse, hs, pulse_between_iff]

/-- An operand in the physical range fits the pulse register. -/
theorem inRange_setWidth (cfg : Config)
    (h : cfg.pulseMin.toNat ≤ pulse.toNat ∧ pulse.toNat ≤ cfg.pulseMax.toNat) :
    cfg.inRange (pulse.setWidth 16) = true := by
  have hfit : pulse.toNat % 2 ^ 16 = pulse.toNat := Nat.mod_eq_of_lt (h.2.trans_lt cfg.pulseMax.isLt)
  rwa [Config.inRange_iff, BitVec.le_def, BitVec.le_def, BitVec.toNat_setWidth, hfit]

theorem exec_servoAngleToPulse_some {p : Nat} (hs : s.seqStep = .seg .s0)
    (hp : anglePulse s.cfg angle.toInt = some (p : Int)) :
    exec (.servoAngleToPulse angle) s = .next (finish .ok { s with result := BitVec.ofNat 32 p }) := by
  simp [exec, execServoAngleToPulse, hs, hp]

theorem exec_servoAngleToPulse_none (hs : s.seqStep = .seg .s0) (hp : anglePulse s.cfg angle.toInt = none) :
    exec (.servoAngleToPulse angle) s = .next (finish .angleDomain s) := by
  simp [exec, execServoAngleToPulse, hs, hp]

end

/-- The point `k` of `d` steps from `lo` to `hi`, in naturals. -/
def interpolated (lo hi k d : Nat) : Nat := lo + k * (hi - lo) / d

theorem interpolated_ge (lo hi k d : Nat) : lo ≤ interpolated lo hi k d := Nat.le_add_right ..

theorem interpolated_le {lo hi k d : Nat} (h : lo ≤ hi) (hk : k ≤ d) : interpolated lo hi k d ≤ hi := by
  have hstep : k * (hi - lo) / d ≤ hi - lo := Nat.div_le_of_le_mul (Nat.mul_le_mul_right _ hk)
  unfold interpolated
  omega

/-- The model's exact integers give the same point. -/
theorem interpolated_cast {lo hi : Nat} (h : lo ≤ hi) (k d : Nat) :
    (interpolated lo hi k d : Int) = lo + ((k : Int) * ((hi : Int) - lo)).tdiv d := by
  rw [← Nat.cast_sub h, ← Nat.cast_mul, ← Int.ofNat_tdiv, ← Nat.cast_add, interpolated]

section
variable {cfg : Config} (h : cfg.pulseMin ≤ cfg.pulseMid ∧ cfg.pulseMid ≤ cfg.pulseMax) {n : Nat}
include h

/-- The segment of 0 to 90 degrees (43_servo.md R183). -/
theorem anglePulse_lower (hn : n ≤ 90) :
    anglePulse cfg n = some ↑(interpolated cfg.pulseMin.toNat cfg.pulseMid.toNat n 90) := by
  have hdom : (0 : Int) ≤ n ∧ (n : Int) ≤ 90 := by omega
  rw [interpolated_cast (BitVec.le_def.mp h.1)]
  exact if_pos hdom

/-- The segment of 91 to 180 degrees (43_servo.md R183). -/
theorem anglePulse_upper (hlo : 91 ≤ n) (hhi : n ≤ 180) :
    anglePulse cfg n = some ↑(interpolated cfg.pulseMid.toNat cfg.pulseMax.toNat (n - 91) 89) := by
  have hnot : ¬ ((0 : Int) ≤ n ∧ (n : Int) ≤ 90) := by omega
  have hdom : (91 : Int) ≤ n ∧ (n : Int) ≤ 180 := by omega
  rw [interpolated_cast (BitVec.le_def.mp h.2), Nat.cast_sub hlo]
  exact (if_neg hnot).trans (if_pos hdom)

end

theorem anglePulse_outside (cfg : Config) {a : Int} (h : a < 0 ∨ 180 < a) : anglePulse cfg a = none :=
  (if_neg (by omega)).trans (if_neg (by omega))

/-- A non-negative angle is its own number. -/
theorem toInt_eq_toNat_of_nonneg {a : Word} (h : 0 ≤ a.toInt) : a.toInt = a.toNat :=
  BitVec.toInt_eq_toNat_of_msb (by simpa [BitVec.msb_eq_toInt] using h)

/-- Settles O46: `n` is the rounded magnitude whose entry `headingPulse_fin` names. -/
theorem setHeadingWritesTheTableEntry : Obligations.SetHeadingWritesTheTableEntry := by
  unfold Obligations.SetHeadingWritesTheTableEntry
  intro s yaw neg mag n hw hs hy hm hlo hhi
  have hn : (2 * mag + F32.one) / (2 * F32.one) = n := by
    rw [Nat.div_eq_iff (by decide), F32.one]
    omega
  have hr : headingInRange (F32.ofBits yaw) = true := (headingInRange_iff _).mpr ⟨neg, mag, hy, hm⟩
  obtain ⟨p, hp⟩ := headingPulse_isSome s.cfg hr
  refine ⟨p, ?_, exec_servoSetHeading_inRange hw hs hr hp⟩
  rwa [hy, (headingPulse_fin s.cfg neg hm).2, hn] at hp

/-- Settles O47. -/
theorem setHeadingOutOfRangeHoldsThePulse : Obligations.SetHeadingOutOfRangeHoldsThePulse := by
  unfold Obligations.SetHeadingOutOfRangeHoldsThePulse
  intro s yaw hs hy
  refine exec_servoSetHeading_outOfRange hs fun hr => ?_
  obtain ⟨neg, mag, hfin, hm⟩ := (headingInRange_iff _).mp hr
  obtain hnan | ⟨neg', hinf⟩ | ⟨neg', mag', hfin', hm'⟩ := hy
  · exact absurd (hfin.symm.trans hnan) nofun
  · exact absurd (hfin.symm.trans hinf) nofun
  · obtain ⟨-, rfl⟩ := F32.fin.inj (hfin.symm.trans hfin')
    exact absurd hm hm'.not_gt

/-- Settles O48. -/
theorem setPulseChecksTheRange : Obligations.SetPulseChecksTheRange := by
  unfold Obligations.SetPulseChecksTheRange
  intro s pulse hs
  rw [exec_servoSetPulse_s0 hs]
  constructor
  · intro hmin hmax
    rw [if_pos ⟨hmin, hmax⟩, servoWrite_of_inRange (inRange_setWidth s.cfg ⟨hmin, hmax⟩), BitVec.ofNat_toNat]
  · intro hout
    rw [if_neg (by omega)]

/-- Settles O49: each segment is an interpolation, which stays between its ends. -/
theorem angleToPulseInterpolates : Obligations.AngleToPulseInterpolates := by
  unfold Obligations.AngleToPulseInterpolates
  intro s angle hw hs
  have hrange := (Config.wfRange_iff s.cfg).mp ((Config.wf_iff s.cfg).mp hw).1
  refine ⟨fun h0 h90 => ?_, fun h91 h180 => ?_, fun hout => ?_⟩
  · have ha := toInt_eq_toNat_of_nonneg h0
    have hn : angle.toNat ≤ 90 := by omega
    exact ⟨exec_servoAngleToPulse_some hs (ha ▸ anglePulse_lower hrange hn), interpolated_ge ..,
      interpolated_le (BitVec.le_def.mp hrange.1) hn⟩
  · have ha := toInt_eq_toNat_of_nonneg (a := angle) (by omega)
    exact ⟨exec_servoAngleToPulse_some hs (ha ▸ anglePulse_upper hrange (by omega) (by omega)), interpolated_ge ..,
      interpolated_le (BitVec.le_def.mp hrange.2) (by omega)⟩
  · exact exec_servoAngleToPulse_none hs (anglePulse_outside s.cfg hout)

/-- Settles O50: neither the range test nor the table entry depends on what the first command wrote. -/
theorem setHeadingTwiceWritesTwice : Obligations.SetHeadingTwiceWritesTwice := by
  unfold Obligations.SetHeadingTwiceWritesTwice
  intro s t u yaw hw hs ht hu
  by_cases hr : headingInRange (F32.ofBits yaw) = true
  · obtain ⟨p, hp⟩ := headingPulse_isSome s.cfg hr
    obtain rfl := Host.Outcome.next.inj (ht.symm.trans (exec_servoSetHeading_inRange hw hs hr hp))
    obtain rfl := Host.Outcome.next.inj (hu.symm.trans (exec_servoSetHeading_inRange hw rfl hr hp))
    exact ⟨fun _ => ⟨rfl, rfl, rfl, BitVec.add_assoc .., rfl⟩, fun hne => absurd rfl hne⟩
  · obtain rfl := Host.Outcome.next.inj (ht.symm.trans (exec_servoSetHeading_outOfRange hs hr))
    obtain rfl := Host.Outcome.next.inj (hu.symm.trans (exec_servoSetHeading_outOfRange rfl hr))
    exact ⟨nofun, fun _ => ⟨rfl, rfl, rfl⟩⟩

end Sys2Proof.Machine
end

section
/-!
The gap registers: which commands write them, what every segment of GAP.FIND keeps of the table of 44_gap.md R207, and
O11.
-/

namespace Sys2Proof.Machine

/-- The registers that a row of 44_gap.md R207 speaks of, with the configuration it names. -/
structure GapRegs where
  cfg  : Config
  sel  : Half
  maxd : Word
  path : GapPath
  idx  : BitVec 3

/-- The gap registers as a state holds them. -/
def State.gap (s : State) : GapRegs := ⟨s.cfg, s.gapSel, s.gapMaxd, s.gapPath, s.gapIdx⟩

theorem GapRow.congr {s t : State} (h : GapRow s) (hg : t.gap = s.gap) : GapRow t := by
  simp only [State.gap, GapRegs.mk.injEq] at hg
  obtain ⟨hcfg, hsel, hmaxd, hpath, hidx⟩ := hg
  unfold GapRow at *
  rwa [hcfg, hsel, hmaxd, hpath, hidx]

theorem GapStage.congr {s t : State} (h : GapStage s) (hs : t.seqStep = s.seqStep) (hp : t.gapPath = s.gapPath) :
    GapStage t := by
  unfold GapStage at *
  rwa [hs, hp]

theorem servoWrite_gap (p : Half) (s : State) : (servoWrite p s).gap = s.gap := by
  unfold servoWrite; split <;> rfl

theorem steerThen_gap (p : Half) (l : Seg) (s : State) : (steerThen p l s).gap = s.gap := servoWrite_gap p s

theorem initNext_gap (r : GyroRange) (s : State) : (initNext r s).gap = s.gap := by
  unfold initNext; split <;> rfl

/-- A segment that writes no gap register and leaves the sequencer where it stood or outside GAP.FIND's search. -/
structure KeepsGap (s t : State) : Prop where
  gap   : t.gap = s.gap
  stage : GapStage s → GapStage t

theorem KeepsGap.refl (s : State) : KeepsGap s s := ⟨rfl, id⟩

theorem KeepsGap.of_finish {s u : State} {c : Code} (h : u.gap = s.gap) : KeepsGap s (finish c u) :=
  ⟨h, fun _ => trivial⟩

/-- The next write of GYRO.INIT, after writes to none of these registers. -/
theorem initNext_keepsGap {s u : State} {r : GyroRange} (h : u.gap = s.gap) : KeepsGap s (initNext r u) :=
  ⟨(initNext_gap r u).trans h, fun _ => by unfold initNext; split <;> trivial⟩

theorem execGyroInit_keepsGap {range : Word} {s t : State} (h : execGyroInit range s = .next t) : KeepsGap s t := by
  unfold execGyroInit at h
  split at h
  · cases h; exact .of_finish rfl
  · cases h; exact initNext_keepsGap rfl
  · split at h <;> cases h
    · exact .refl s
    · split
      · exact .of_finish rfl
      · exact initNext_keepsGap rfl
  · split at h <;> cases h
    · exact .refl s
    · split <;> exact .of_finish rfl
  · cases h

theorem execGyroCalibrate_keepsGap {s t : State} (h : execGyroCalibrate s = .next t) : KeepsGap s t := by
  unfold execGyroCalibrate at h
  split at h
  · cases h
    split
    · exact .of_finish rfl
    · split
      · exact .of_finish rfl
      · exact ⟨rfl, fun _ => trivial⟩
  · split at h <;> cases h
    · exact .refl s
    · exact ⟨rfl, fun _ => trivial⟩
  · cases h
    split
    · exact ⟨rfl, fun _ => trivial⟩
    · exact .of_finish rfl
  · cases h

theorem execGyroSample_keepsGap {dt : Word} {s t : State} (h : execGyroSample dt s = .next t) : KeepsGap s t := by
  unfold execGyroSample at h
  split at h
  · cases h
    split
    · exact .of_finish rfl
    · exact ⟨rfl, fun _ => trivial⟩
  · split at h <;> cases h
    · exact .refl s
    · exact .of_finish rfl
  · cases h

theorem execServoSetHeading_keepsGap {yaw : Word} {s t : State} (h : execServoSetHeading yaw s = .next t) :
    KeepsGap s t := by
  unfold execServoSetHeading at h
  split at h
  · split at h
    · split at h <;> cases h
      exact .of_finish (servoWrite_gap ..)
    · cases h; exact .of_finish rfl
  · cases h

theorem execServoSetPulse_keepsGap {pulse : Word} {s t : State} (h : execServoSetPulse pulse s = .next t) :
    KeepsGap s t := by
  unfold execServoSetPulse at h
  split at h <;> cases h
  split
  · exact .of_finish (servoWrite_gap ..)
  · exact .of_finish rfl

/-- No command but GAP.FIND writes a gap register or enters its search. -/
theorem exec_keepsGap {i : Instr} (hi : i ≠ .gapFind) {s t : State} (h : exec i s = .next t) : KeepsGap s t := by
  cases i with
  | nop => simp only [exec, execNop] at h; split at h <;> cases h; exact .of_finish rfl
  | echoTrigger => simp only [exec, execEchoTrigger] at h; split at h <;> cases h; exact .of_finish rfl
  | echoRead =>
    simp only [exec, execEchoRead] at h
    split at h <;> cases h
    · exact ⟨rfl, fun _ => trivial⟩
    · exact .of_finish rfl
  | echoConvert tc ovf => simp only [exec, execEchoConvert] at h; split at h <;> cases h; exact .of_finish rfl
  | gyroInit r => exact execGyroInit_keepsGap h
  | gyroCalibrate => exact execGyroCalibrate_keepsGap h
  | gyroSample dt => exact execGyroSample_keepsGap h
  | gyroReset => simp only [exec, execGyroReset] at h; split at h <;> cases h; exact .of_finish rfl
  | servoSetHeading y => exact execServoSetHeading_keepsGap h
  | servoSetPulse p => exact execServoSetPulse_keepsGap h
  | servoAngleToPulse a =>
    simp only [exec, execServoAngleToPulse] at h
    split at h
    · split at h <;> cases h <;> exact .of_finish rfl
    · cases h
  | gapFind => exact absurd rfl hi
  | gapPulseToAngle p =>
    simp only [exec, execGapPulseToAngle] at h
    split at h
    · split at h <;> cases h <;> exact .of_finish rfl
    · cases h

/-- The gap registers are a row of the table, and one that is possible where the sequencer stands. -/
def GapFits (s : State) : Prop := GapRow s ∧ GapStage s

theorem KeepsGap.gapFits {s t : State} (k : KeepsGap s t) (h : GapFits s) : GapFits t :=
  ⟨h.1.congr k.gap, k.stage h.2⟩

/-! The segments of GAP.FIND. Each is given what `GapStage` says of PATH where the segment begins. -/

/-- Steering on from a row that is possible at the next label. -/
theorem steerThen_gapFits {p : Half} {l : Seg} {u : State} (hr : GapRow u)
    (hs : GapStage { u with seqStep := .seg l }) : GapFits (steerThen p l u) :=
  ⟨hr.congr (steerThen_gap p l u), hs.congr rfl (congrArg GapRegs.path (steerThen_gap p l u))⟩

theorem isClear_iff (d : Word) : isClear d = true ↔ clearThresh < d := decide_eq_true_iff

section
variable {s t : State}

theorem gapStart_gapFits (s : State) : GapFits (gapStart s) := steerThen_gapFits ⟨rfl, rfl, rfl⟩ rfl

/-- Before the sweep the registers are as G0 cleared them. -/
theorem GapRow.notRun (h : GapRow s) (hp : s.gapPath = .notRun) :
    s.gapSel = 0#16 ∧ s.gapMaxd = 0#32 ∧ s.gapIdx = noIdx := by
  simpa only [GapRow, hp] using h

theorem gapRight_gapFits (hr : GapRow s) (hp : s.gapPath = .notRun) : GapFits (gapRight s) := by
  obtain ⟨-, -, hidx⟩ := hr.notRun hp
  unfold gapRight
  split
  · rename_i hd
    exact steerThen_gapFits ⟨rfl, (isClear_iff _).mp hd, hidx⟩ nofun
  · exact steerThen_gapFits (hr.congr rfl) hp

theorem gapLeft_gapFits (hr : GapRow s) (hp : s.gapPath = .notRun) (h : gapLeft s = .next t) : GapFits t := by
  obtain ⟨hsel, hmaxd, hidx⟩ := hr.notRun hp
  unfold gapLeft at h
  split at h
  · rename_i hd
    cases h
    exact steerThen_gapFits ⟨rfl, (isClear_iff _).mp hd, hidx⟩ nofun
  · split at h <;> cases h
    exact steerThen_gapFits (.inl ⟨hsel, hmaxd, hidx⟩) rfl

/-- A recorded distance is more than the maximum so far, so it is no zero. -/
theorem gapRecord_gapRow {p : SweepPoint} {k : BitVec 3} (d : Word) (hr : GapRow s) (hp : s.gapPath = .sweep)
    (hk : romSweep s.cfg k = some p) : GapRow (gapRecord p.pulse k d s) := by
  unfold gapRecord
  split
  · rename_i hd
    have hpos : 1#32 ≤ d := by bv_omega
    simp only [GapRow, hp]
    exact .inr ⟨p, hk, rfl, hpos⟩
  · exact hr

theorem gapSweep_gapFits (hr : GapRow s) (hp : s.gapPath = .sweep) (h : gapSweep s = .next t) : GapFits t := by
  unfold gapSweep at h
  dsimp only at h
  split at h
  · cases h
  · rename_i p hk
    have row := gapRecord_gapRow (measured s) (s := gapMeasure s) (hr.congr rfl) hp hk
    have path : (gapRecord p.pulse s.seqK (measured s) (gapMeasure s)).gapPath = .sweep := by
      simpa [gapMeasure] using hp
    split at h
    · split at h <;> cases h
      exact steerThen_gapFits (row.congr rfl) path
    · cases h
      exact steerThen_gapFits row fun hn => absurd (path.symm.trans hn) nofun

/-- Every segment of GAP.FIND keeps the registers on a row that is possible where it leaves the sequencer
(44_gap.md R201, R207). -/
theorem execGapFind_gapFits (hf : GapFits s) (h : execGapFind s = .next t) : GapFits t := by
  obtain ⟨hr, hstage⟩ := hf
  unfold GapStage at hstage
  unfold execGapFind at h
  split at h <;> rename_i hs <;> simp only [hs] at hstage
  · cases h; exact gapStart_gapFits s
  · cases h; exact ⟨hr.congr rfl, hstage⟩
  · cases h; exact gapRight_gapFits hr hstage
  · cases h; exact ⟨hr.congr rfl, hstage⟩
  · exact gapLeft_gapFits hr hstage h
  · cases h; exact ⟨hr.congr rfl, hstage⟩
  · exact gapSweep_gapFits hr hstage h
  · cases h; exact ⟨hr.congr rfl, trivial⟩
  · cases h

theorem exec_gapFits {i : Instr} (hf : GapFits s) (h : exec i s = .next t) : GapFits t := by
  by_cases hi : i = .gapFind
  · subst hi; exact execGapFind_gapFits hf h
  · exact (exec_keepsGap hi h).gapFits hf

theorem sequencerPhase_gapFits (hf : GapFits s) (h : sequencerPhase s = .next t) : GapFits t := by
  obtain ⟨l, -, hrun⟩ | ⟨-, rfl⟩ := sequencerPhase_cases h
  · obtain ⟨i, -, hx⟩ | ⟨-, rfl⟩ := runSegment_cases hrun
    · exact exec_gapFits hf hx
    · exact (KeepsGap.of_finish rfl).gapFits hf
  · exact ⟨hf.1.congr (by simp [State.gap]), hf.2.congr (by simp) (by simp)⟩

theorem atSequencer_gapFits (hf : GapFits s) : GapFits (atSequencer s) :=
  ⟨hf.1.congr (by simp [State.gap, atSequencer]), hf.2.congr (by simp [atSequencer]) (by simp [atSequencer])⟩

/-- Phase 7 writes no gap register, and a command that it accepts starts at S0, where every row is possible. -/
theorem hostPhase_gapFits (a : HostAccess) (hf : GapFits s) : GapFits (hostPhase a s) := by
  refine ⟨hf.1.congr (by simp [State.gap]), ?_⟩
  obtain ⟨hs, -, -⟩ | ⟨-, hs, -⟩ := hostPhase_sequencer a s
  · exact hf.2.congr hs (by simp)
  · simp [GapStage, hs]

end

/-- Settles O11: a reset cycle leaves the registers as before any search, and phases 2 to 7 of any other keep row and
stage; the sweep index is kept as in the block's invariant. -/
theorem stepKeepsTheGapTable : Obligations.StepKeepsTheGapTable := by
  unfold Obligations.StepKeepsTheGapTable
  intro s t ⟨hrow, hstage, hk⟩ h
  obtain ⟨-, ⟨-, rfl⟩ | ⟨hr, -⟩⟩ := step_cases h
  · exact (resetMeetsTheInvariant s.cfg).2
  · obtain ⟨u, hu, rfl⟩ := step_phases hr h
    obtain ⟨hrow', hstage'⟩ := hostPhase_gapFits (nextInputs s).host
      (sequencerPhase_gapFits (atSequencer_gapFits ⟨hrow, hstage⟩) hu)
    have moves := sequencerPhase_moves hu
    exact ⟨hrow', hstage', by simpa using moves.sweep (by simpa [atSequencer] using hk)⟩

end Sys2Proof.Machine
end

section
/-!
GAP.FIND segment by segment: what steering and measuring do under a well-formed configuration, with O52, O53 and O55
(44_gap.md R201 to R206).
-/

namespace Sys2Proof.Machine

section
variable {s : State} {l : Seg}

/-- Steering to a pulse of the physical range writes it and settles for 2 000 000 cycles (44_gap.md R201, R205). -/
theorem steerThen_of_inRange {p : Half} (h : s.cfg.inRange p = true) :
    steerThen p l s = waiting 2000000 l (pwmWritten p s) := by
  rw [steerThen, servoWrite_of_inRange h]; rfl

/-- Re-centring is never refused (`wf_fixed_pulses`). -/
theorem gapCenter_of_wf (hw : s.cfg.wf = true) :
    gapCenter s = waiting 2000000 .ge (pwmWritten s.cfg.pulseCenter s) :=
  steerThen_of_inRange (Config.wf_fixed hw).2.2

theorem measured_eq (s : State) : measured s = BitVec.ofNat 32 (s.duration.toNat / 58) := distanceOf_eq s.duration

theorem measured_toNat (s : State) : (measured s).toNat = s.duration.toNat / 58 := distanceOf_toNat s.duration

/-- The clearance test on the quotient by 58 (44_gap.md R202). -/
theorem isClear_measured_iff (s : State) : isClear (measured s) = true ↔ 37 < s.duration.toNat / 58 := by
  rw [isClear_iff, BitVec.lt_def, measured_toNat]; rfl

theorem exec_gapFind_s0 (hs : s.seqStep = .seg .s0) : exec .gapFind s = .next (gapStart s) := by
  simp [exec, execGapFind, hs]

theorem exec_gapFind_g1 (hs : s.seqStep = .seg .g1) : exec .gapFind s = .next (measureStart .g2 s) := by
  simp [exec, execGapFind, hs]

theorem exec_gapFind_g2 (hs : s.seqStep = .seg .g2) : exec .gapFind s = .next (gapRight s) := by
  simp [exec, execGapFind, hs]

theorem exec_gapFind_g3 (hs : s.seqStep = .seg .g3) : exec .gapFind s = .next (measureStart .g4 s) := by
  simp [exec, execGapFind, hs]

theorem exec_gapFind_g4 (hs : s.seqStep = .seg .g4) : exec .gapFind s = gapLeft s := by
  simp [exec, execGapFind, hs]

theorem exec_gapFind_g5 (hs : s.seqStep = .seg .g5) : exec .gapFind s = .next (measureStart .g6 s) := by
  simp [exec, execGapFind, hs]

theorem exec_gapFind_g6 (hs : s.seqStep = .seg .g6) : exec .gapFind s = gapSweep s := by
  simp [exec, execGapFind, hs]

theorem exec_gapFind_ge (hs : s.seqStep = .seg .ge) : exec .gapFind s = .next (gapEnd s) := by
  simp [exec, execGapFind, hs]

/-! G2, G4 and G6 on either side of their tests. -/

theorem gapRight_of_clear (hd : 37 < s.duration.toNat / 58) :
    gapRight s = gapCenter (gapSelect s.cfg.pulseRight (measured s) .right (gapMeasure s)) :=
  if_pos ((isClear_measured_iff s).mpr hd)

theorem gapRight_of_not_clear (hd : s.duration.toNat / 58 ≤ 37) :
    gapRight s = steerThen s.cfg.pulseLeft .g3 (gapMeasure s) :=
  if_neg fun h => absurd ((isClear_measured_iff s).mp h) hd.not_gt

theorem gapLeft_of_clear (hd : 37 < s.duration.toNat / 58) :
    gapLeft s = .next (gapCenter (gapSelect s.cfg.pulseLeft (measured s) .left (gapMeasure s))) :=
  if_pos ((isClear_measured_iff s).mpr hd)

theorem gapLeft_of_not_clear (hd : s.duration.toNat / 58 ≤ 37) :
    gapLeft s = .next (steerThen s.cfg.sweep[0].pulse .g5 { gapMeasure s with gapPath := .sweep, seqK := 0#3 }) := by
  have hc : ¬ isClear (measured s) = true := fun h => absurd ((isClear_measured_iff s).mp h) hd.not_gt
  have hrom : romSweep s.cfg 0#3 = some s.cfg.sweep[0] := Vector.getElem?_eq_getElem (by decide)
  simp [gapLeft, hc, hrom]

/-- What G6 leaves of its measurement before it steers on (44_gap.md R201, R203). -/
def sweepRecorded (p : SweepPoint) (s : State) : State :=
  gapRecord p.pulse s.seqK (measured s) (gapMeasure s)

/-- The record's test on the quotient by 58 (44_gap.md R203). -/
theorem sweepRecorded_eq (p : SweepPoint) (s : State) :
    sweepRecorded p s = if s.gapMaxd.toNat < s.duration.toNat / 58
      then { gapMeasure s with gapMaxd := measured s, gapSel := p.pulse, gapIdx := s.seqK } else gapMeasure s := by
  have hlt : (gapMeasure s).gapMaxd < measured s ↔ s.gapMaxd.toNat < s.duration.toNat / 58 := by
    rw [BitVec.lt_def, measured_toNat]; rfl
  simp only [sweepRecorded, gapRecord, hlt]

theorem sweepRecorded_cfg (p : SweepPoint) (s : State) : (sweepRecorded p s).cfg = s.cfg :=
  (gapRecord_cfg ..).trans (gapMeasure_same s).cfg

variable {p q : SweepPoint}

/-- G6 before the last point. -/
theorem gapSweep_of_next (hp : s.cfg.sweep[s.seqK.toNat]? = some p) (hq : s.cfg.sweep[s.seqK.toNat + 1]? = some q) :
    gapSweep s = .next (steerThen q.pulse .g5 { sweepRecorded p s with seqK := s.seqK + 1#3 }) := by
  have hlen : s.seqK.toNat + 1 < 7 := (Vector.getElem?_eq_some_iff.mp hq).1
  have hlt : s.seqK < lastSweep := by rw [lastSweep]; bv_omega
  have hsucc : (s.seqK + 1#3).toNat = s.seqK.toNat + 1 := by bv_omega
  simp only [gapSweep, romSweep, hp, hsucc, hq, hlt, if_true, sweepRecorded]

/-- G6 at the last point. -/
theorem gapSweep_of_last (hp : s.cfg.sweep[s.seqK.toNat]? = some p) (hk : s.seqK = 6#3) :
    gapSweep s = .next (gapCenter (sweepRecorded p s)) := by
  have hlast : ¬ s.seqK < lastSweep := by rw [hk]; decide
  simp only [gapSweep, romSweep, hp, hlast, if_false, sweepRecorded]

end

/-- Settles O52: each segment by its equation, with every steering pulse in range (`wf_fixed_pulses`,
`wf_sweep_range`). -/
theorem gapFindSearchesRightThenLeft : Obligations.GapFindSearchesRightThenLeft := by
  unfold Obligations.GapFindSearchesRightThenLeft
  intro s hw
  rw [← measured_eq]
  intro d m started centred
  obtain ⟨hright, hleft, -⟩ := Config.wf_fixed hw
  have hfirst : s.cfg.inRange s.cfg.sweep[0].pulse = true :=
    (Config.wf_sweep hw (Vector.getElem?_eq_getElem (by decide))).1
  refine ⟨fun hs => ?_, exec_gapFind_g1, exec_gapFind_g3, exec_gapFind_g5, fun hs hd => ?_, fun hs hd => ?_,
    fun hs hd => ?_, fun hs hd => ?_⟩
  · exact (exec_gapFind_s0 hs).trans (congrArg _ (steerThen_of_inRange hright))
  · rw [exec_gapFind_g2 hs, gapRight_of_clear hd]
    exact congrArg _ (gapCenter_of_wf hw)
  · rw [exec_gapFind_g2 hs, gapRight_of_not_clear hd]
    exact congrArg _ (steerThen_of_inRange hleft)
  · rw [exec_gapFind_g4 hs, gapLeft_of_clear hd]
    exact congrArg _ (gapCenter_of_wf hw)
  · rw [exec_gapFind_g4 hs, gapLeft_of_not_clear hd]
    exact congrArg _ (steerThen_of_inRange hfirst)

/-- Settles O53. -/
theorem gapFindSweepPoint : Obligations.GapFindSweepPoint := by
  unfold Obligations.GapFindSweepPoint
  intro s p hw hs hp
  rw [exec_gapFind_g6 hs, ← measured_eq]
  intro d m u
  have hcfg : (sweepRecorded p s).cfg = s.cfg := sweepRecorded_cfg p s
  rw [show u = sweepRecorded p s from (sweepRecorded_eq p s).symm]
  refine ⟨fun q hq => ?_, fun hk => ?_⟩
  · have hin : (sweepRecorded p s).cfg.inRange q.pulse = true := hcfg ▸ (Config.wf_sweep hw hq).1
    exact (gapSweep_of_next hp hq).trans (congrArg _ (steerThen_of_inRange hin))
  · rw [gapSweep_of_last hp hk, gapCenter_of_wf (hcfg ▸ hw), hcfg]

/-- Settles O55. -/
theorem gapFindCompletes : Obligations.GapFindCompletes := by
  unfold Obligations.GapFindCompletes
  intro s hs
  rw [exec_gapFind_ge hs, BitVec.ofNat_toNat]
  rfl

end Sys2Proof.Machine
end

section
/-!
The sweep of GAP.FIND as a whole: what its record says of the distances measured so far, and O54 (44_gap.md R203).
-/

namespace Sys2Proof.Machine

/-- The gap registers record the durations `ds` of the first sweep points: no distance exceeds GAP_MAXD, and either no
point has won or IDX names the first of those with the greatest distance, no zero (44_gap.md R203). -/
def SweepRecord (ds : List Word) (s : State) : Prop :=
  (∀ d ∈ ds, d.toNat / 58 ≤ s.gapMaxd.toNat) ∧
    ((s.gapIdx = 7#3 ∧ s.gapSel = 0#16 ∧ s.gapMaxd = 0#32) ∨
      ∃ p d, s.cfg.sweep[s.gapIdx.toNat]? = some p ∧ ds[s.gapIdx.toNat]? = some d ∧
        s.gapSel = p.pulse ∧ s.gapMaxd.toNat = d.toNat / 58 ∧ 0 < d.toNat / 58 ∧
        ∀ (j : Nat) (e : Word), j < s.gapIdx.toNat → ds[j]? = some e → e.toNat / 58 < d.toNat / 58)

theorem SweepRecord.congr {ds : List Word} {s t : State} (h : SweepRecord ds s) (hg : t.gap = s.gap) :
    SweepRecord ds t := by
  simp only [State.gap, GapRegs.mk.injEq] at hg
  obtain ⟨hcfg, hsel, hmaxd, -, hidx⟩ := hg
  unfold SweepRecord at *
  rwa [hcfg, hsel, hmaxd, hidx]

section
variable {ds : List Word} {s : State} {p : SweepPoint}

/-- A distance above the maximum so far makes its point the only one with the greatest. -/
theorem SweepRecord.append_greater (h : SweepRecord ds s) (hp : s.cfg.sweep[s.seqK.toNat]? = some p)
    (hk : s.seqK.toNat = ds.length) (hd : s.gapMaxd.toNat < s.duration.toNat / 58) :
    SweepRecord (ds ++ [s.duration]) (sweepRecorded p s) := by
  rw [sweepRecorded_eq, if_pos hd]
  refine ⟨fun e he => ?_, .inr ⟨p, s.duration, hp, by simp [hk], rfl, measured_toNat s, by omega, fun j e hj he => ?_⟩⟩
  · rw [measured_toNat]
    obtain he | he := List.mem_append.mp he
    · exact (h.1 e he).trans hd.le
    · rw [List.mem_singleton.mp he]
  · have hj : j < ds.length := hk ▸ hj
    rw [List.getElem?_append_left hj] at he
    exact (h.1 e (List.mem_of_getElem? he)).trans_lt hd

/-- Any other leaves the first greatest where it was. -/
theorem SweepRecord.append_not_greater (h : SweepRecord ds s) (hd : s.duration.toNat / 58 ≤ s.gapMaxd.toNat) :
    SweepRecord (ds ++ [s.duration]) (sweepRecorded p s) := by
  rw [sweepRecorded_eq, if_neg hd.not_gt]
  refine SweepRecord.congr (s := s) ⟨fun e he => ?_, h.2.imp_right ?_⟩ rfl
  · obtain he | he := List.mem_append.mp he
    · exact h.1 e he
    · rwa [List.mem_singleton.mp he]
  · rintro ⟨q, d, hq, hdi, hsel, hmaxd, hpos, hfirst⟩
    have hlt : s.gapIdx.toNat < ds.length := (List.getElem?_eq_some_iff.mp hdi).1
    refine ⟨q, d, hq, (List.getElem?_append_left hlt).trans hdi, hsel, hmaxd, hpos, fun j e hj he => ?_⟩
    exact hfirst j e hj (List.getElem?_append_left (hj.trans hlt) ▸ he)

theorem SweepRecord.append (h : SweepRecord ds s) (hp : s.cfg.sweep[s.seqK.toNat]? = some p)
    (hk : s.seqK.toNat = ds.length) : SweepRecord (ds ++ [s.duration]) (sweepRecorded p s) := by
  obtain hd | hd := Nat.lt_or_ge s.gapMaxd.toNat (s.duration.toNat / 58)
  · exact h.append_greater hp hk hd
  · exact h.append_not_greater hd

end

theorem exists_sweepPoint (c : Config) {k : Nat} (h : k < 7) : ∃ p, c.sweep[k]? = some p :=
  ⟨_, Vector.getElem?_eq_getElem h⟩

/-- The state in which G6 finds the corrected duration `d` of its sweep point. -/
def atSweepPoint (d : Word) (s : State) : State := { s with seqStep := .seg .g6, duration := d }

theorem sweepAll_cons {d : Word} {ds : List Word} {s t : State} (h : gapSweep (atSweepPoint d s) = .next t) :
    sweepAll (d :: ds) s = sweepAll ds t := by
  have hx : exec .gapFind { s with seqStep := .seg .g6, duration := d } = .next t := (exec_gapFind_g6 rfl).trans h
  simp only [sweepAll, hx]

section
variable {done : List Word} {s : State} (d : Word)

theorem sweepRecord_measured {p : SweepPoint} (hrec : SweepRecord done s) (hk : s.seqK.toNat = done.length)
    (hp : s.cfg.sweep[s.seqK.toNat]? = some p) :
    SweepRecord (done ++ [d]) (sweepRecorded p (atSweepPoint d s)) :=
  SweepRecord.append (s := atSweepPoint d s) (hrec.congr rfl) hp hk

/-- A point before the last is recorded, and the sweep goes on to the next. -/
theorem gapSweep_goes_on (hrec : SweepRecord done s) (hk : s.seqK.toNat = done.length) (hlt : done.length < 6) :
    ∃ t, gapSweep (atSweepPoint d s) = .next t ∧ t.cfg = s.cfg ∧ t.seqK.toNat = done.length + 1 ∧
      SweepRecord (done ++ [d]) t := by
  obtain ⟨p, hp⟩ := exists_sweepPoint s.cfg (k := s.seqK.toNat) (by omega)
  obtain ⟨q, hq⟩ := exists_sweepPoint s.cfg (k := s.seqK.toNat + 1) (by omega)
  have hsucc : (s.seqK + 1#3).toNat = done.length + 1 := by bv_omega
  exact ⟨_, gapSweep_of_next hp hq, (steerThen_same ..).cfg.trans (sweepRecorded_cfg p _),
    by simpa [steerThen, atSweepPoint] using hsucc, (sweepRecord_measured d hrec hk hp).congr (steerThen_gap ..)⟩

/-- The last point is recorded, and the sweep ends at GE. -/
theorem gapSweep_ends (hrec : SweepRecord done s) (hk : s.seqK.toNat = done.length) (hlast : done.length = 6) :
    ∃ t, gapSweep (atSweepPoint d s) = .next t ∧ t.cfg = s.cfg ∧ t.seqStep = .seg .ge ∧
      SweepRecord (done ++ [d]) t := by
  obtain ⟨p, hp⟩ := exists_sweepPoint s.cfg (k := s.seqK.toNat) (by omega)
  have hk6 : s.seqK = 6#3 := BitVec.eq_of_toNat_eq (hk.trans hlast)
  exact ⟨_, gapSweep_of_last hp hk6, (steerThen_same ..).cfg.trans (sweepRecorded_cfg p _), rfl,
    (sweepRecord_measured d hrec hk hp).congr (steerThen_gap ..)⟩

end

/-- The rest of a sweep, from the point after those already recorded: it ends at GE with all seven recorded. -/
theorem sweepAll_record (ds : List Word) : ∀ (done : List Word) (s : State), ds ≠ [] → done.length + ds.length = 7 →
    s.seqK.toNat = done.length → SweepRecord done s →
    ∃ t, sweepAll ds s = .next t ∧ t.cfg = s.cfg ∧ t.seqStep = .seg .ge ∧ SweepRecord (done ++ ds) t := by
  induction ds with
  | nil => exact fun _ _ hne => absurd rfl hne
  | cons d ds ih =>
    intro done s _ hlen hk hrec
    rw [List.length_cons] at hlen
    cases ds with
    | nil =>
      obtain ⟨t, ht, hend⟩ := gapSweep_ends d hrec hk (Nat.succ.inj hlen)
      exact ⟨t, sweepAll_cons ht, hend⟩
    | cons e es =>
      rw [List.length_cons] at hlen
      obtain ⟨t, ht, hcfg, hkt, hrect⟩ := gapSweep_goes_on d hrec hk (by omega)
      obtain ⟨u, hu, hcfgU, hge, hrecu⟩ := ih (done ++ [d]) t (by simp) (by simp; omega) (by simpa using hkt) hrect
      rw [sweepAll_cons ht, List.append_cons]
      exact ⟨u, hu, hcfgU.trans hcfg, hge, hrecu⟩

/-- Settles O54: the sweep from the empty record. -/
theorem sweepSelectsTheFirstGreatest : Obligations.SweepSelectsTheFirstGreatest := by
  unfold Obligations.SweepSelectsTheFirstGreatest
  intro s ds _ hlen hk hmaxd hsel hidx
  have cleared : SweepRecord [] s := ⟨nofun, .inl ⟨hidx, hsel, hmaxd⟩⟩
  have hne : ds ≠ [] := List.ne_nil_of_length_pos (by omega)
  obtain ⟨t, ht, hcfg, hge, hrec⟩ := sweepAll_record ds [] s hne (by simpa using hlen) (by simp [hk]) cleared
  rw [SweepRecord, hcfg] at hrec
  exact ⟨t, ht, hge, hrec⟩

end Sys2Proof.Machine
end

section
/-!
The reverse map of GAP.PULSE_TO_ANGLE on numbers, under a well-formed configuration, and O56 (44_gap.md R208, R209).
-/

namespace Sys2Proof.Machine

theorem eq_setWidth_iff (w : Word) (p : Half) : w = p.setWidth 32 ↔ w.toNat = p.toNat := by
  rw [← BitVec.toNat_inj, BitVec.toNat_setWidth_of_le (by decide)]

/-- The sweep points are searched in order. -/
theorem sweepAngle_eq_find? (w : Word) (l : List SweepPoint) :
    sweepAngle w l = (l.find? fun p => w.toNat = p.pulse.toNat).map SweepPoint.angle := by
  induction l with
  | nil => rfl
  | cons p l ih =>
    by_cases h : w.toNat = p.pulse.toNat <;> simp [sweepAngle, eq_setWidth_iff, h, ih]

section
variable {c : Config} {w : Word}

/-- Distinct sweep pulses belong to distinct points (`wf_sweep_distinct`). -/
theorem sweep_eq_of_pulse_eq (hw : c.wf = true) {j k : Nat} {p q : SweepPoint} (hp : c.sweep[j]? = some p)
    (hq : c.sweep[k]? = some q) (h : p.pulse = q.pulse) : p = q := by
  obtain ⟨-, -, -, -, hdistinct, -⟩ := (Config.wf_iff c).mp hw
  obtain rfl : j = k := (Config.wfSweepDistinct_iff c).mp hdistinct j k p q hp hq h
  exact Option.some.inj (hp.symm.trans hq)

theorem sweepAngle_of_pulse (hw : c.wf = true) {k : Nat} {p : SweepPoint} (hp : c.sweep[k]? = some p)
    (h : w.toNat = p.pulse.toNat) : sweepAngle w c.sweep.toList = some p.angle := by
  rw [sweepAngle_eq_find?]
  cases hf : c.sweep.toList.find? fun q => w.toNat = q.pulse.toNat with
  | none =>
    have hmem : p ∈ c.sweep.toList := Vector.mem_toList_iff.mpr (Vector.mem_of_getElem? hp)
    exact absurd (decide_eq_true h) (List.find?_eq_none.mp hf p hmem)
  | some q =>
    have hpulse : w.toNat = q.pulse.toNat := by simpa using List.find?_some hf
    obtain ⟨j, hq⟩ := Vector.mem_iff_getElem?.mp (Vector.mem_toList_iff.mp (List.mem_of_find?_eq_some hf))
    rw [sweep_eq_of_pulse_eq hw hq hp (BitVec.eq_of_toNat_eq (hpulse.symm.trans h))]
    rfl

theorem sweepAngle_of_no_pulse (h : ∀ (k : Nat) (p : SweepPoint), c.sweep[k]? = some p → w.toNat ≠ p.pulse.toNat) :
    sweepAngle w c.sweep.toList = none := by
  have hf : c.sweep.toList.find? (fun p => w.toNat = p.pulse.toNat) = none := by
    refine List.find?_eq_none.mpr fun p hp => ?_
    obtain ⟨k, hk⟩ := Vector.mem_iff_getElem?.mp (Vector.mem_toList_iff.mp hp)
    simpa using h k p hk
  rw [sweepAngle_eq_find?, hf, Option.map_none]

/-- The three tests of the reverse map on numbers (44_gap.md R208). -/
theorem reverseAngle_eq (c : Config) (w : Word) :
    reverseAngle c w = if w.toNat = c.pulseRight.toNat then some c.angleRight.toInt
      else if w.toNat = c.pulseLeft.toNat then some (-c.angleRight.toInt)
      else sweepAngle w c.sweep.toList := by
  simp only [reverseAngle, eq_setWidth_iff]

theorem reverseAngle_right (h : w.toNat = c.pulseRight.toNat) : reverseAngle c w = some c.angleRight.toInt := by
  rw [reverseAngle_eq, if_pos h]

/-- The angle that a configuration gives one pulse twice is the same (`wf_reverse_consistent`). -/
theorem reverse_consistent (hw : c.wf = true) : c.pulseRight ≠ c.pulseLeft ∧
    ∀ (k : Nat) (p : SweepPoint), c.sweep[k]? = some p →
      (p.pulse = c.pulseRight → p.angle = c.angleRight.toInt) ∧
      (p.pulse = c.pulseLeft → p.angle = -c.angleRight.toInt) := by
  obtain ⟨-, -, -, -, -, hreverse, -⟩ := (Config.wf_iff c).mp hw
  exact (Config.wfReverseConsistent_iff c).mp hreverse

theorem reverseAngle_left (hw : c.wf = true) (h : w.toNat = c.pulseLeft.toNat) :
    reverseAngle c w = some (-c.angleRight.toInt) := by
  have hne : w.toNat ≠ c.pulseRight.toNat := fun hr =>
    (reverse_consistent hw).1 (BitVec.eq_of_toNat_eq (hr.symm.trans h))
  rw [reverseAngle_eq, if_neg hne, if_pos h]

/-- A sweep pulse that is also a fixed one has the fixed one's angle. -/
theorem reverseAngle_sweep (hw : c.wf = true) {k : Nat} {p : SweepPoint} (hp : c.sweep[k]? = some p)
    (h : w.toNat = p.pulse.toNat) : reverseAngle c w = some p.angle := by
  obtain ⟨hright, hleft⟩ := (reverse_consistent hw).2 k p hp
  rw [reverseAngle_eq]
  split
  · rename_i hr
    rw [hright (BitVec.eq_of_toNat_eq (h.symm.trans hr))]
  · split
    · rename_i hl
      rw [hleft (BitVec.eq_of_toNat_eq (h.symm.trans hl))]
    · exact sweepAngle_of_pulse hw hp h

theorem reverseAngle_none (hr : w.toNat ≠ c.pulseRight.toNat) (hl : w.toNat ≠ c.pulseLeft.toNat)
    (hs : ∀ (k : Nat) (p : SweepPoint), c.sweep[k]? = some p → w.toNat ≠ p.pulse.toNat) :
    reverseAngle c w = none := by
  rw [reverseAngle_eq, if_neg hr, if_neg hl, sweepAngle_of_no_pulse hs]

/-- No pulse of the physical range is 0 (`wf_nonzero_pulses`). -/
theorem inRange_toNat_pos (hw : c.wf = true) {p : Half} (h : c.inRange p = true) : 0 < p.toNat := by
  obtain ⟨-, -, -, -, -, -, hnonzero, -⟩ := (Config.wf_iff c).mp hw
  have hmin := (Config.wfNonzeroPulses_iff c).mp hnonzero
  exact hmin.trans (BitVec.le_def.mp ((Config.inRange_iff c p).mp h).1)

theorem reverseAngle_zero (hw : c.wf = true) : reverseAngle c 0#32 = none := by
  obtain ⟨hright, hleft, -⟩ := Config.wf_fixed hw
  exact reverseAngle_none (inRange_toNat_pos hw hright).ne (inRange_toNat_pos hw hleft).ne
    fun k p hp => (inRange_toNat_pos hw (Config.wf_sweep hw hp).1).ne

end

section
variable {s : State} {pulse : Word}

theorem exec_gapPulseToAngle_some {a : Int} (hs : s.seqStep = .seg .s0) (ha : reverseAngle s.cfg pulse = some a) :
    exec (.gapPulseToAngle pulse) s = .next (finish .ok { s with result := BitVec.ofInt 32 a }) := by
  simp [exec, execGapPulseToAngle, hs, ha]

theorem exec_gapPulseToAngle_none (hs : s.seqStep = .seg .s0) (ha : reverseAngle s.cfg pulse = none) :
    exec (.gapPulseToAngle pulse) s = .next (finish .notMappable s) := by
  simp [exec, execGapPulseToAngle, hs, ha]

end

/-- Settles O56. -/
theorem pulseToAngleInvertsTheSweep : Obligations.PulseToAngleInvertsTheSweep := by
  unfold Obligations.PulseToAngleInvertsTheSweep
  intro s pulse hw hs gives
  exact ⟨fun h => exec_gapPulseToAngle_some hs (reverseAngle_right h),
    fun h => exec_gapPulseToAngle_some hs (reverseAngle_left hw h),
    fun k p hp h => exec_gapPulseToAngle_some hs (reverseAngle_sweep hw hp h),
    fun hr hl hsweep => exec_gapPulseToAngle_none hs (reverseAngle_none hr hl hsweep),
    fun h0 => exec_gapPulseToAngle_none hs (h0 ▸ reverseAngle_zero hw)⟩

end Sys2Proof.Machine
end

section
/-!
Reset, and the cycles after the end of a run, with O7 and O60 (70_reset_and_hazards.md R270, R271, R289).
-/

namespace Sys2Proof.Machine

/-- A cycle with RESET = 1 is the reset cycle alone (70_reset_and_hazards.md R270). -/
theorem step_of_reset {s : State} (hw : s.cfg.wf = true) (hr : (nextInputs s).reset = true) :
    step s = .next (resetCycle (beginCycle s)) := by
  simp [step, hw, cycleWith, hr]

/-- Settles O7. -/
theorem resetCycleRestoresEveryRegister : Obligations.ResetCycleRestoresEveryRegister := by
  unfold Obligations.ResetCycleRestoresEveryRegister
  exact fun s hw hr => ⟨_, step_of_reset hw hr, rfl, rfl, rfl, rfl, rfl, rfl⟩

/-- A cycle of an idle block with no reset and no host access is phases 2 to 5. -/
theorem eq_atSequencer_of_idle {s t : State} (hi : s.seqStep = .idle) (hr : (nextInputs s).reset = false)
    (hh : (nextInputs s).host = .none) (h : step s = .next t) : t = atSequencer s := by
  obtain ⟨u, hu, rfl⟩ := step_phases hr h
  rw [sequencerPhase_of_idle (by simpa [atSequencer] using hi)] at hu
  cases hu
  rw [hh]
  rfl

/-- With no pulse in progress the trigger phase does nothing (41_echo.md R122). -/
theorem triggerTick_of_zero {s : State} (h : s.trigCnt = 0#8) : triggerTick s = s := by
  simp [triggerTick, h]

/-- Phases 2 to 5 give a quiescent block nothing to do: a response with BUS_PEND = 0 is ignored, and the trigger count
stays 0. -/
theorem atSequencer_quiescent {s : State} (h : Quiescent s) : Quiescent (atSequencer s) := by
  obtain ⟨hi, hb, hp, hc⟩ := h
  refine ⟨by simpa [atSequencer] using hi, by simpa [atSequencer] using hb, atSequencer_busPend_none hp, ?_⟩
  rw [atSequencer_trigCnt, triggerTick_of_zero hc, hc]

/-- While ECHO_IN keeps its level, only the timer phase can do anything in a quiescent block. -/
theorem atSequencer_of_level {s : State} (h : Quiescent s) (he : (nextInputs s).echoIn = s.echoSync) :
    atSequencer s = timerTick (beginCycle s) := by
  obtain ⟨-, -, hp, hc⟩ := h
  rw [atSequencer, autonomous, triggerTick_of_zero (by simpa using hc), edgePhase_of_level (by simpa using he),
    busPhase_of_no_response (.inl (by simpa using hp))]

/-- The host has no access left after a cycle in which it made none exactly when it had none before. -/
theorem hostDone_step {s t : State} (hh : (nextInputs s).host = .none) (h : step s = .next t) :
    HostDone t ↔ HostDone s := by
  refine ⟨fun ht k => ?_, fun hs k => inputsAt_step h k ▸ hs (k + 1)⟩
  cases k with
  | zero => exact nextInputs_eq s ▸ hh
  | succ k => exact inputsAt_step h k ▸ ht k

/-- The registers that phases 2 to 5 write are read at ECHO_DURATION and ECHO_STATE alone (20_memory.md R63). -/
theorem regValue_atSequencer (s : State) {r : HostReg} (hd : r ≠ .echoDuration) (hs : r ≠ .echoState) :
    regValue (atSequencer s) r = regValue s r := by
  obtain ⟨_, _, _, _, _, _, _, _, _, _, frame⟩ := autonomous_frame (nextInputs s) (beginCycle s)
  rw [atSequencer, frame]
  cases r
  case echoDuration => exact absurd rfl hd
  case echoState => exact absurd rfl hs
  all_goals rfl

/-- ECHO_DURATION and ECHO_STATE stand at 0x14 and 0x18 alone (20_memory.md R63). -/
theorem hostReg_settled {addr : Byte} {r : HostReg} (h : hostReg addr = some r) (hd : addr ≠ 0x14#8)
    (hs : addr ≠ 0x18#8) : r ≠ .echoDuration ∧ r ≠ .echoState := by
  unfold hostReg at h
  constructor <;> rintro rfl <;> split at h <;> cases h
  · exact hd rfl
  · exact hs rfl

theorem hostRead_atSequencer (s : State) {addr : Byte} (hd : addr ≠ 0x14#8) (hs : addr ≠ 0x18#8) :
    hostRead (atSequencer s) addr = hostRead s addr := by
  unfold hostRead
  cases hr : hostReg addr with
  | none => rfl
  | some r =>
    obtain ⟨hdur, hstate⟩ := hostReg_settled hr hd hs
    exact regValue_atSequencer s hdur hstate

/-- The map is the twenty words from 0 (20_memory.md R61, R63). -/
theorem mappedAddresses_eq : mappedAddresses = (List.range 20).map fun k => BitVec.ofNat 8 (4 * k) := by decide

theorem mem_mappedAddresses_iff (addr : Byte) :
    addr ∈ mappedAddresses ↔ addr.toNat % 4 = 0 ∧ addr.toNat < 0x50 := by
  rw [mappedAddresses_eq]
  simp only [List.mem_map, List.mem_range]
  constructor
  · rintro ⟨k, hk, rfl⟩
    rw [BitVec.toNat_ofNat]
    omega
  · rintro ⟨haligned, hlt⟩
    exact ⟨addr.toNat / 4, by omega, BitVec.eq_of_toNat_eq (by rw [BitVec.toNat_ofNat]; omega)⟩

theorem mem_endState_registers_iff (s : State) (addr : Byte) (v : Word) :
    (addr, v) ∈ s.endState.registers ↔ addr.toNat % 4 = 0 ∧ addr.toNat < 0x50 ∧ v = hostRead s addr := by
  rw [← and_assoc, ← mem_mappedAddresses_iff]
  simp only [State.endState, List.mem_map, Prod.mk.injEq]
  exact ⟨fun ⟨_, ha, haddr, hv⟩ => haddr ▸ ⟨ha, hv.symm⟩, fun ⟨ha, hv⟩ => ⟨addr, ha, rfl, hv.symm⟩⟩

theorem mem_settled_registers_iff (e : EndState) (addr : Byte) (v : Word) :
    (addr, v) ∈ e.settled.registers ↔ (addr, v) ∈ e.registers ∧ addr ≠ 0x14#8 ∧ addr ≠ 0x18#8 := by
  simp [EndState.settled]

/-- The settled part of an end state depends on what it lists alone. -/
theorem settled_endState_congr {s t : State}
    (hread : ∀ addr, addr ≠ 0x14#8 → addr ≠ 0x18#8 → hostRead t addr = hostRead s addr)
    (hwrites : t.pwmWrites = s.pwmWrites) (hpulse : t.servoPulse = s.servoPulse) :
    t.endState.settled = s.endState.settled := by
  have hregs : t.endState.settled.registers = s.endState.settled.registers := by
    simp only [EndState.settled, State.endState, List.filter_map]
    refine List.map_congr_left fun addr ha => ?_
    obtain ⟨-, hd, hs⟩ : addr ∈ mappedAddresses ∧ addr ≠ 0x14#8 ∧ addr ≠ 0x18#8 := by simpa using ha
    rw [hread addr hd hs]
  rw [EndState.mk.injEq]
  exact ⟨hregs, hwrites, hpulse⟩

/-- The strobes of a cycle and its inputs are no part of the end state. -/
theorem endState_beginCycle (s : State) : (beginCycle s).endState = s.endState := rfl

/-- Settles O60: the cycle is phases 2 to 5, whose only work in a quiescent block is the timer's and an edge's. -/
theorem endedRunStaysEnded : Obligations.EndedRunStaysEnded := by
  unfold Obligations.EndedRunStaysEnded
  refine ⟨fun s t hq hr hh h => ?_, fun s addr v => ⟨mem_endState_registers_iff s addr v,
    mem_settled_registers_iff s.endState addr v, ⟨rfl, rfl⟩, rfl, rfl⟩⟩
  have hdone := hostDone_step hh h
  have ⟨hi, _⟩ := hq
  obtain rfl := eq_atSequencer_of_idle hi hr hh h
  have hqt := atSequencer_quiescent hq
  have hread (addr : Byte) := hostRead_atSequencer s (addr := addr)
  refine ⟨hqt, and_congr (iff_of_true hqt hq) hdone,
    settled_endState_congr hread (by simp [atSequencer]) (by simp [atSequencer]), hread, fun he => ?_⟩
  rw [atSequencer_of_level hq he]
  refine ⟨timerTick_duration _, fun hstopped => ?_⟩
  rw [timerTick_of_stopped (by simpa using hstopped), endState_beginCycle]

end Sys2Proof.Machine
end
